-- ==== Sys2Proof/Word.lean ====
section
/-! DEFINITION. The word types of the block: register numbers, rounding codes, operand and result patterns, and the two
floating-point formats (00_scope.md R9, R12, R15; 30_encoding.md R60, R64, R66). -/

namespace Sys2Proof

/-- A register field: a 5-bit unsigned register number (30_encoding.md R66). -/
abbrev Reg := BitVec 5

/-- A rounding code: a 3-bit code in [0,7] (30_encoding.md R64). -/
abbrev RoundingCode := BitVec 3

/-- An instruction word, 32 bits (30_encoding.md R60). -/
abbrev InstrWord := BitVec 32

/-- The contents of an FP register, FLEN = 64 bits (00_scope.md R9). -/
abbrev FpWord := BitVec 64

/-- An XLEN-bit integer value. When XLEN = 32 its upper 32 bits are zero (10_state.md R32; log entry 13). -/
abbrev XWord := BitVec 64

/-- Five IEEE exception flags, {invalid, divide-by-zero, overflow, underflow, inexact} from bit 4 down to bit 0
(10_state.md R26, R29). -/
abbrev FlagSet := BitVec 5

/-- The two formats: S is binary32, D is binary64 (00_scope.md R15). -/
inductive Fmt where
  | S
  | D
  deriving DecidableEq, Repr

/-- The width in bits of a pattern of the format (41_ieee_numerics.md R100). -/
abbrev Fmt.width : Fmt → Nat
  | .S => 32
  | .D => 64

/-- A pattern of a format, as the block's ports carry it (10_state.md R33). -/
abbrev Pattern (fmt : Fmt) := BitVec fmt.width

end Sys2Proof
end

