-- ==== Sys2Proof/Config.lean ====
section
/-! DEFINITION. The build parameters of 00_scope.md R10, each with every value the spec lists, and the one free value of the
model: the NaN draw of NAN_MODE = Propagate. -/

namespace Sys2Proof

/-- XLEN, the width of the integer ports (00_scope.md R11). -/
inductive Xlen where
  | rv32
  | rv64
  deriving DecidableEq, Repr

/-- NAN_MODE (41_ieee_numerics.md R112): which NaN an operation returns. -/
inductive NanMode where
  | canonical
  | propagate
  deriving DecidableEq, Repr

/-- F32_BOX (10_state.md R34): how a 32-bit value sits in a 64-bit FP register. -/
inductive BoxMode where
  | nanBox
  | truncate
  deriving DecidableEq, Repr

/-- TININESS (41_ieee_numerics.md R109): when a result is tiny. -/
inductive Tininess where
  | afterRounding
  | beforeRounding
  deriving DecidableEq, Repr

/-- The parameters the model takes as arguments (00_scope.md R10). They are fixed for the life of the block: no step writes
them (40_control_path.md R82; log entry 4). -/
structure Config where
  /-- XLEN (R11). -/
  xlen : Xlen
  /-- GATE_PRESENT (40_control_path.md R82). -/
  gatePresent : Bool
  /-- CLASSIFY_GATED (40_control_path.md R83). -/
  classifyGated : Bool
  /-- SNAN_BIT_IS_ONE (41_ieee_numerics.md R102). -/
  snanBitIsOne : Bool
  /-- NAN_MODE (41_ieee_numerics.md R112). -/
  nanMode : NanMode
  /-- F32_BOX (10_state.md R34). -/
  f32Box : BoxMode
  /-- TININESS (41_ieee_numerics.md R109). -/
  tininess : Tininess
  /-- RESET_FP_ENABLED (10_state.md R40). -/
  resetFpEnabled : Bool
  deriving DecidableEq, Repr

/-- The values taken (00_scope.md R10). XLEN is OPEN there. DESIGN CHOICE (unsafe): 64, the width of the spec's examples (92 D2;
log entry 3). -/
def Config.taken : Config where
  xlen := .rv64
  gatePresent := true
  classifyGated := false
  snanBitIsOne := false
  nanMode := .canonical
  f32Box := .nanBox
  tininess := .afterRounding
  resetFpEnabled := false

/-- The free value: the sign and fraction bits of the n-th NaN drawn under NAN_MODE = Propagate (41_ieee_numerics.md R112: "a
draw"). It has no body. DESIGN CHOICE (safe), log entry 8. -/
opaque Config.freeNaN : Nat → BitVec 64

end Sys2Proof
end

