-- ==== Sys2Proof/Machine/Flags.lean ====
section
/-! DEFINITION. The IEEE flags a primitive raises and their translation to `fflags` (10_state.md R26, R29; 40_control_path.md R89). -/

namespace Sys2Proof.Machine

/-- Inexact, bit 0 (10_state.md R29). -/
def flagNX : FlagSet := 0b00001#5
/-- Underflow, bit 1. -/
def flagUF : FlagSet := 0b00010#5
/-- Overflow, bit 2. -/
def flagOF : FlagSet := 0b00100#5
/-- Divide-by-zero, bit 3. -/
def flagDZ : FlagSet := 0b01000#5
/-- Invalid, bit 4. -/
def flagNV : FlagSet := 0b10000#5
/-- No flag. -/
def noFlags : FlagSet := 0#5

/-- The flag `fl` when `c` holds, else none. -/
def flagIf (c : Bool) (fl : FlagSet) : FlagSet := if c then fl else noFlags

/-- The `fflags` bit of each IEEE flag (40_control_path.md R89): inexact to 0 (NX), underflow to 1 (UF), overflow to 2 (OF),
divide-by-zero to 3 (DZ), invalid to 4 (NV). -/
def translate (raised : FlagSet) : FlagSet :=
  flagIf (raised.getLsbD 0) 0b00001#5 ||| flagIf (raised.getLsbD 1) 0b00010#5 ||| flagIf (raised.getLsbD 2) 0b00100#5 |||
    flagIf (raised.getLsbD 3) 0b01000#5 ||| flagIf (raised.getLsbD 4) 0b10000#5

end Sys2Proof.Machine
end

