-- ==== Sys2Proof/Machine/Format.lean ====
section
/-! DEFINITION. The two formats and their patterns (41_ieee_numerics.md R100 to R105, R110, R111, R117).

A finite value is held exactly as a whole number of MINSUB, the smallest subnormal 2^(emin - F): every finite value of a format is
one (R103). A pattern's fields are read from it as a number, bit 0 least significant (R101). -/

namespace Sys2Proof.Machine

/-! ## The format parameters (R100) -/

/-- E, the number of exponent bits. -/
def expBits : Fmt → Nat
  | .S => 8
  | .D => 11

/-- F, the number of fraction bits. -/
def fracBits : Fmt → Nat
  | .S => 23
  | .D => 52

/-- The precision p = F + 1. -/
def precision (fmt : Fmt) : Nat := fracBits fmt + 1

/-- The bias, which is also emax. -/
def bias : Fmt → Nat
  | .S => 127
  | .D => 1023

/-- emax. -/
def emax (fmt : Fmt) : Int := bias fmt

/-- emin = 1 - bias. -/
def emin (fmt : Fmt) : Int := 1 - (bias fmt : Int)

/-- EXPMAX = 2^E - 1 (R101). -/
def expMax (fmt : Fmt) : Nat := 2 ^ expBits fmt - 1

/-- K with MINSUB = 2^(emin - F) = 1 / 2^K. -/
def minsubExp (fmt : Fmt) : Nat := bias fmt - 1 + fracBits fmt

/-- The sign-bit mask: 0x80000000 for S, 0x8000000000000000 for D (R100). -/
def signMask : (fmt : Fmt) → Pattern fmt
  | .S => 0x80000000#32
  | .D => 0x8000000000000000#64

/-! ## Fields (R101) -/

/-- sign(v) = v[w-1]. -/
def signOf (fmt : Fmt) (v : Pattern fmt) : Bool := v.getLsbD (fmt.width - 1)

/-- exp(v) = v[w-2:F]. -/
def expOf (fmt : Fmt) (v : Pattern fmt) : Nat := v.toNat / 2 ^ fracBits fmt % 2 ^ expBits fmt

/-- frac(v) = v[F-1:0]. -/
def fracOf (fmt : Fmt) (v : Pattern fmt) : Nat := v.toNat % 2 ^ fracBits fmt

/-- The pattern {s, exp[E-1:0], frac[F-1:0]}. -/
def ofFields (fmt : Fmt) (s : Bool) (exp frac : Nat) : Pattern fmt :=
  BitVec.ofNat fmt.width (s.toNat * 2 ^ (fmt.width - 1) + exp % 2 ^ expBits fmt * 2 ^ fracBits fmt + frac % 2 ^ fracBits fmt)

/-! ## Kinds of pattern (R102, R103) -/

/-- exp = EXPMAX and frac ≠ 0. -/
def isNaN (fmt : Fmt) (v : Pattern fmt) : Bool := expOf fmt v == expMax fmt && fracOf fmt v != 0

/-- exp = EXPMAX and frac = 0. -/
def isInf (fmt : Fmt) (v : Pattern fmt) : Bool := expOf fmt v == expMax fmt && fracOf fmt v == 0

/-- exp = 0 and frac = 0. -/
def isZero (fmt : Fmt) (v : Pattern fmt) : Bool := expOf fmt v == 0 && fracOf fmt v == 0

/-- exp = 0 and frac ≠ 0. -/
def isSubnormal (fmt : Fmt) (v : Pattern fmt) : Bool := expOf fmt v == 0 && fracOf fmt v != 0

/-- The quiet bit, the most significant fraction bit (R102). -/
def quietBit (fmt : Fmt) (v : Pattern fmt) : Bool := v.getLsbD (fracBits fmt - 1)

/-- A NaN is signaling iff its quiet bit equals SNAN_BIT_IS_ONE (R102). -/
def isSNaN (c : Config) (fmt : Fmt) (v : Pattern fmt) : Bool := isNaN fmt v && (quietBit fmt v == c.snanBitIsOne)

/-- A NaN that is not signaling is quiet (R102). -/
def isQNaN (c : Config) (fmt : Fmt) (v : Pattern fmt) : Bool := isNaN fmt v && (quietBit fmt v != c.snanBitIsOne)

/-! ## Values (R103, R105, R117) -/

/-- |val(v)| of a finite pattern, in units of MINSUB: f for a zero or subnormal, (2^F + f) * 2^(x - 1) for a normal. -/
def units (fmt : Fmt) (v : Pattern fmt) : Nat :=
  if expOf fmt v = 0 then fracOf fmt v else (2 ^ fracBits fmt + fracOf fmt v) * 2 ^ (expOf fmt v - 1)

/-- val(v) of a finite pattern, in units of MINSUB, with its sign. -/
def signedUnits (fmt : Fmt) (v : Pattern fmt) : Int :=
  if signOf fmt v then -(units fmt v : Int) else units fmt v

/-- The value of a pattern that is no NaN, as an extended real in units of MINSUB (R103, R117). -/
inductive ExtValue where
  | negInf
  | fin (k : Int)
  | posInf
  deriving DecidableEq, Repr

/-- val(v) for a v that is no NaN; -0 and +0 are both 0 (R117). -/
def valueOf (fmt : Fmt) (v : Pattern fmt) : ExtValue :=
  if isInf fmt v then (if signOf fmt v then .negInf else .posInf) else .fin (signedUnits fmt v)

/-- x < y in the order -infinity < every finite value < +infinity (R117). -/
def ExtValue.lt : ExtValue → ExtValue → Bool
  | .negInf, .negInf => false
  | .negInf, .fin _ => true
  | .negInf, .posInf => true
  | .fin _, .negInf => false
  | .fin a, .fin b => decide (a < b)
  | .fin _, .posInf => true
  | .posInf, .negInf => false
  | .posInf, .fin _ => false
  | .posInf, .posInf => false

/-! ## Packing (R104) -/

/-- pack(fmt, s, y) for a representable y of k MINSUB: exp = 0 when y < 2^emin, that is k < 2^F; else e' - emin = log2 k - F. -/
def pack (fmt : Fmt) (s : Bool) (k : Nat) : Pattern fmt :=
  if k < 2 ^ fracBits fmt then ofFields fmt s 0 k
  else ofFields fmt s (k.log2 - fracBits fmt + 1) (k / 2 ^ (k.log2 - fracBits fmt) - 2 ^ fracBits fmt)

/-- Infinity with sign s: {s, EXPMAX, 0}. -/
def infinity (fmt : Fmt) (s : Bool) : Pattern fmt := ofFields fmt s (expMax fmt) 0

/-- Zero with sign s. -/
def zero (fmt : Fmt) (s : Bool) : Pattern fmt := ofFields fmt s 0 0

/-- MAXF = (2^p - 1) * 2^(emax - F), in units of MINSUB. -/
def maxUnits (fmt : Fmt) : Nat := (2 ^ precision fmt - 1) * 2 ^ (emax fmt - emin fmt).toNat

/-- The largest finite magnitude, with sign s. -/
def maxFinite (fmt : Fmt) (s : Bool) : Pattern fmt := pack fmt s (maxUnits fmt)

/-! ## NaN results (R111, R112) -/

/-- The canonical NaN of the format under the build's quiet-bit convention (R111). -/
def canonicalNaN (c : Config) : (fmt : Fmt) → Pattern fmt
  | .S => if c.snanBitIsOne then 0x7FBFFFFF#32 else 0x7FC00000#32
  | .D => if c.snanBitIsOne then 0x7FF7FFFFFFFFFFFF#64 else 0x7FF8000000000000#64

/-- A quiet NaN of the format with the sign (bit 63) and the fraction (low bits) of `bits`, the quiet bit as R102 wants it. When
that leaves the fraction zero, which no NaN has, the fraction below the quiet bit is all ones. Every quiet NaN comes from some
`bits` (R112; log entry 8). -/
def quietNaN (c : Config) (fmt : Fmt) (bits : BitVec 64) : Pattern fmt :=
  let payload := bits.toNat % 2 ^ (fracBits fmt - 1)
  if c.snanBitIsOne then
    ofFields fmt (bits.getLsbD 63) (expMax fmt) (if payload = 0 then 2 ^ (fracBits fmt - 1) - 1 else payload)
  else
    ofFields fmt (bits.getLsbD 63) (expMax fmt) (2 ^ (fracBits fmt - 1) + payload)

/-! ## Sign flip (42_fma.md R130) and signs of zero (R110) -/

/-- flip(fmt, v) = v ^ SIGNMASK(fmt): it inverts bit w-1 and nothing else (42_fma.md R130). -/
def flip (fmt : Fmt) (v : Pattern fmt) : Pattern fmt := v ^^^ signMask fmt

end Sys2Proof.Machine
end

