-- ==== Sys2Proof/Machine/State.lean ====
section
/-! DEFINITION. The state of the block (10_state.md), of the minimal CPU harness around it (95_test_vectors.md Part 4), and of its
host interface (70_reset_and_hazards.md R222, R223), as plain data; the outcomes of an operation; and the state after reset. -/

namespace Sys2Proof.Machine

/-- The rounding directives (00_scope.md R15). -/
inductive Directive where
  /-- Nearest, ties to even. -/
  | rne
  /-- Toward zero. -/
  | rtz
  /-- Toward negative infinity. -/
  | rdn
  /-- Toward positive infinity. -/
  | rup
  /-- Nearest, ties away from zero. -/
  | rmm
  deriving DecidableEq, Repr

/-- The exceptions the block raises: exactly one (60_exceptions.md R195). -/
inductive TrapCause where
  | illegalInstruction
  deriving DecidableEq, Repr

/-- The outcome of an operation (10_state.md R36): a floating-point result of either width, an integer result of XLEN bits, or a
trap (60_exceptions.md R194). -/
inductive OpOutcome where
  | fp32 (v : BitVec 32)
  | fp64 (v : BitVec 64)
  | int (v : XWord)
  | trap (cause : TrapCause)
  deriving DecidableEq, Repr

/-- The CSRs through which software sees the block (10_state.md R28). -/
inductive Csr where
  /-- CSR 0x001. -/
  | fflags
  /-- CSR 0x002. -/
  | frm
  /-- CSR 0x003. -/
  | fcsr
  deriving DecidableEq, Repr

/-- What the host may do between operations (70_reset_and_hazards.md R223). -/
inductive HostAction where
  /-- Present a request: the CPU hands the word it fetched to the decoder of 30_encoding.md R71. -/
  | present (w : InstrWord)
  /-- Write `frm`, any 3-bit value. -/
  | writeFrm (v : BitVec 3)
  /-- Write `fflags`, any 5-bit value, clearing it included. -/
  | writeFflags (v : FlagSet)
  /-- Write `fcsr` (10_state.md R28): both registers at once. -/
  | writeFcsr (v : BitVec 32)
  /-- Set or clear `fp_enabled`. -/
  | setFpEnabled (on : Bool)
  /-- Write mstatus, whose FS field gives `fp_enabled` (10_state.md R27). -/
  | writeMstatus (v : BitVec 64)
  /-- Read a CSR into an integer register; the block sees nothing of it. -/
  | readCsr (csr : Csr) (rd : Reg)
  /-- Write an FP register (a load or a move of the CPU, 00_scope.md R7). -/
  | loadF (r : Reg) (v : FpWord)
  /-- Write an integer register (an integer instruction of the CPU, 00_scope.md R7). -/
  | loadX (r : Reg) (v : XWord)
  /-- Reset the CPU that owns the processor state (R210). -/
  | reset
  deriving DecidableEq, Repr

/-- Why the machine stops with a fault: never. No request is stuck (60_exceptions.md R208; 93 Part 1), and a trap is an outcome
the run goes on after (R222). -/
inductive Fault where
  deriving DecidableEq, Repr

/-- Why the model has no meaning for what it is given. -/
inductive Refusal where
  /-- Raised by `exec` for an instruction that has no meaning yet. Safe. -/
  | notModelled (mnemonic : String)
  /-- Raised by a meaning of an L or LU conversion when XLEN = 32: the operation does not exist in that build
  (60_exceptions.md R208; 92 D37). Safe. -/
  | absentOperation
  /-- Raised by `step` for a word of 30_encoding.md R68, which goes to another unit of the CPU. Safe. -/
  | otherUnit
  /-- Raised by `step` for a word that is no F/D instruction: the CPU's own (00_scope.md R7). Safe. -/
  | foreignWord
  deriving DecidableEq, Repr

/-- The machine. Each field names the rule of spec/ that gives it. -/
structure State where
  /-- The build parameters, written by no step (00_scope.md R10; log entry 4). -/
  build : Config
  /-- The dynamic rounding mode register (10_state.md R25). -/
  frm : BitVec 3
  /-- The sticky exception flags (10_state.md R26). -/
  fflags : FlagSet
  /-- The floating-point-enabled flag (10_state.md R27). -/
  fpEnabled : Bool
  /-- The primitive's transient flags (10_state.md R29). -/
  libFlags : FlagSet
  /-- The primitive's active rounding state (10_state.md R30). -/
  libRm : Directive
  /-- The FP register file of the harness (10_state.md R33; log entry 1). -/
  f : Vector FpWord 32
  /-- The integer register file of the harness (10_state.md R32; log entries 1 and 13). -/
  x : Vector XWord 32
  /-- The host's pending interactions, oldest first (70_reset_and_hazards.md R223; log entry 5). -/
  inputs : List HostAction
  /-- The outcomes handed back so far, newest first (70_reset_and_hazards.md R222; log entry 7). -/
  outcomes : List OpOutcome
  /-- The number of NaN draws so far: the model's own field (41_ieee_numerics.md R112; log entry 8). -/
  draws : Nat
  deriving DecidableEq, Repr

/-- The state after reset in a build `c` (10_state.md R40; 70_reset_and_hazards.md R210). The register files hold zero: DESIGN
CHOICE (unsafe), log entry 2. `draws` is 0: DESIGN CHOICE (safe), log entry 8. -/
def State.resetOf (c : Config) : State where
  build := c
  frm := 0#3
  fflags := 0#5
  fpEnabled := c.resetFpEnabled
  libFlags := 0#5
  libRm := .rne
  f := Vector.replicate 32 0#64
  x := Vector.replicate 32 0#64
  inputs := []
  outcomes := []
  draws := 0

/-- The machine right after reset, with the values taken of 00_scope.md R10 (XLEN = 64: log entry 3). -/
def State.reset : State := State.resetOf Config.taken

end Sys2Proof.Machine
end

