-- ==== Sys2Proof/Syntax.lean ====
section
/-! DEFINITION. The instructions of the block: one constructor per row of spec/opcode_table.json (30_encoding.md R67), with the
operand fields of R65 and the rounding code of R64 where the row has one. -/

namespace Sys2Proof

/-- The 48 operations of 30_encoding.md R67 and R70, with the register and rounding-code fields of their words. -/
inductive Instr where
  /-- FMADD.S: f[rd] = (f[rs1] × f[rs2]) + f[rs3], single (R132). -/
  | fmaddS (rd rs1 rs2 rs3 : Reg) (rm : RoundingCode)
  /-- FMSUB.S: f[rd] = (f[rs1] × f[rs2]) - f[rs3], single (R133). -/
  | fmsubS (rd rs1 rs2 rs3 : Reg) (rm : RoundingCode)
  /-- FNMSUB.S: f[rd] = -(f[rs1] × f[rs2]) + f[rs3], single (R134). -/
  | fnmsubS (rd rs1 rs2 rs3 : Reg) (rm : RoundingCode)
  /-- FNMADD.S: f[rd] = -(f[rs1] × f[rs2]) - f[rs3], single (R135). -/
  | fnmaddS (rd rs1 rs2 rs3 : Reg) (rm : RoundingCode)
  /-- FMADD.D: f[rd] = (f[rs1] × f[rs2]) + f[rs3], double (R136). -/
  | fmaddD (rd rs1 rs2 rs3 : Reg) (rm : RoundingCode)
  /-- FMSUB.D: f[rd] = (f[rs1] × f[rs2]) - f[rs3], double (R137). -/
  | fmsubD (rd rs1 rs2 rs3 : Reg) (rm : RoundingCode)
  /-- FNMSUB.D: f[rd] = -(f[rs1] × f[rs2]) + f[rs3], double (R138). -/
  | fnmsubD (rd rs1 rs2 rs3 : Reg) (rm : RoundingCode)
  /-- FNMADD.D: f[rd] = -(f[rs1] × f[rs2]) - f[rs3], double (R139). -/
  | fnmaddD (rd rs1 rs2 rs3 : Reg) (rm : RoundingCode)
  /-- FADD.S: f[rd] = f[rs1] + f[rs2], single (R145). -/
  | faddS (rd rs1 rs2 : Reg) (rm : RoundingCode)
  /-- FSUB.S: f[rd] = f[rs1] - f[rs2], single (R146). -/
  | fsubS (rd rs1 rs2 : Reg) (rm : RoundingCode)
  /-- FMUL.S: f[rd] = f[rs1] × f[rs2], single (R147). -/
  | fmulS (rd rs1 rs2 : Reg) (rm : RoundingCode)
  /-- FDIV.S: f[rd] = f[rs1] / f[rs2], single (R148). -/
  | fdivS (rd rs1 rs2 : Reg) (rm : RoundingCode)
  /-- FSQRT.S: f[rd] = sqrt(f[rs1]), single (R149). -/
  | fsqrtS (rd rs1 : Reg) (rm : RoundingCode)
  /-- FMIN.S: f[rd] = the smaller of f[rs1] and f[rs2], single (R156). -/
  | fminS (rd rs1 rs2 : Reg)
  /-- FMAX.S: f[rd] = the larger of f[rs1] and f[rs2], single (R157). -/
  | fmaxS (rd rs1 rs2 : Reg)
  /-- FLE.S: x[rd] = (f[rs1] ≤ f[rs2]), single (R163). -/
  | fleS (rd rs1 rs2 : Reg)
  /-- FLT.S: x[rd] = (f[rs1] < f[rs2]), single (R162). -/
  | fltS (rd rs1 rs2 : Reg)
  /-- FEQ.S: x[rd] = (f[rs1] = f[rs2]), single (R161). -/
  | feqS (rd rs1 rs2 : Reg)
  /-- FCVT.W.S: x[rd] = f[rs1] (single) as signed 32-bit integer (R170). -/
  | fcvtWS (rd rs1 : Reg) (rm : RoundingCode)
  /-- FCVT.WU.S: x[rd] = f[rs1] (single) as unsigned 32-bit integer (R171). -/
  | fcvtWuS (rd rs1 : Reg) (rm : RoundingCode)
  /-- FCVT.L.S: x[rd] = f[rs1] (single) as signed 64-bit integer (XLEN = 64 only) (R172). -/
  | fcvtLS (rd rs1 : Reg) (rm : RoundingCode)
  /-- FCVT.LU.S: x[rd] = f[rs1] (single) as unsigned 64-bit integer (XLEN = 64 only) (R173). -/
  | fcvtLuS (rd rs1 : Reg) (rm : RoundingCode)
  /-- FCVT.S.W: f[rd] = x[rs1] (signed 32-bit) as single (R179). -/
  | fcvtSW (rd rs1 : Reg) (rm : RoundingCode)
  /-- FCVT.S.WU: f[rd] = x[rs1] (unsigned 32-bit) as single (R180). -/
  | fcvtSWu (rd rs1 : Reg) (rm : RoundingCode)
  /-- FCVT.S.L: f[rd] = x[rs1] (signed 64-bit) as single (XLEN = 64 only) (R181). -/
  | fcvtSL (rd rs1 : Reg) (rm : RoundingCode)
  /-- FCVT.S.LU: f[rd] = x[rs1] (unsigned 64-bit) as single (XLEN = 64 only) (R182). -/
  | fcvtSLu (rd rs1 : Reg) (rm : RoundingCode)
  /-- FCLASS.S: x[rd] = class vector of f[rs1], single (R191). -/
  | fclassS (rd rs1 : Reg)
  /-- FADD.D: f[rd] = f[rs1] + f[rs2], double (R150). -/
  | faddD (rd rs1 rs2 : Reg) (rm : RoundingCode)
  /-- FSUB.D: f[rd] = f[rs1] - f[rs2], double (R151). -/
  | fsubD (rd rs1 rs2 : Reg) (rm : RoundingCode)
  /-- FMUL.D: f[rd] = f[rs1] × f[rs2], double (R152). -/
  | fmulD (rd rs1 rs2 : Reg) (rm : RoundingCode)
  /-- FDIV.D: f[rd] = f[rs1] / f[rs2], double (R153). -/
  | fdivD (rd rs1 rs2 : Reg) (rm : RoundingCode)
  /-- FSQRT.D: f[rd] = sqrt(f[rs1]), double (R154). -/
  | fsqrtD (rd rs1 : Reg) (rm : RoundingCode)
  /-- FMIN.D: f[rd] = the smaller of f[rs1] and f[rs2], double (R158). -/
  | fminD (rd rs1 rs2 : Reg)
  /-- FMAX.D: f[rd] = the larger of f[rs1] and f[rs2], double (R159). -/
  | fmaxD (rd rs1 rs2 : Reg)
  /-- FLE.D: x[rd] = (f[rs1] ≤ f[rs2]), double (R166). -/
  | fleD (rd rs1 rs2 : Reg)
  /-- FLT.D: x[rd] = (f[rs1] < f[rs2]), double (R165). -/
  | fltD (rd rs1 rs2 : Reg)
  /-- FEQ.D: x[rd] = (f[rs1] = f[rs2]), double (R164). -/
  | feqD (rd rs1 rs2 : Reg)
  /-- FCVT.W.D: x[rd] = f[rs1] (double) as signed 32-bit integer (R174). -/
  | fcvtWD (rd rs1 : Reg) (rm : RoundingCode)
  /-- FCVT.WU.D: x[rd] = f[rs1] (double) as unsigned 32-bit integer (R175). -/
  | fcvtWuD (rd rs1 : Reg) (rm : RoundingCode)
  /-- FCVT.L.D: x[rd] = f[rs1] (double) as signed 64-bit integer (XLEN = 64 only) (R176). -/
  | fcvtLD (rd rs1 : Reg) (rm : RoundingCode)
  /-- FCVT.LU.D: x[rd] = f[rs1] (double) as unsigned 64-bit integer (XLEN = 64 only) (R177). -/
  | fcvtLuD (rd rs1 : Reg) (rm : RoundingCode)
  /-- FCVT.D.W: f[rd] = x[rs1] (signed 32-bit) as double (R183). -/
  | fcvtDW (rd rs1 : Reg) (rm : RoundingCode)
  /-- FCVT.D.WU: f[rd] = x[rs1] (unsigned 32-bit) as double (R184). -/
  | fcvtDWu (rd rs1 : Reg) (rm : RoundingCode)
  /-- FCVT.D.L: f[rd] = x[rs1] (signed 64-bit) as double (XLEN = 64 only) (R185). -/
  | fcvtDL (rd rs1 : Reg) (rm : RoundingCode)
  /-- FCVT.D.LU: f[rd] = x[rs1] (unsigned 64-bit) as double (XLEN = 64 only) (R186). -/
  | fcvtDLu (rd rs1 : Reg) (rm : RoundingCode)
  /-- FCLASS.D: x[rd] = class vector of f[rs1], double (R192). -/
  | fclassD (rd rs1 : Reg)
  /-- FCVT.S.D: f[rd] (single) = f[rs1] (double), narrowed (R187). -/
  | fcvtSD (rd rs1 : Reg) (rm : RoundingCode)
  /-- FCVT.D.S: f[rd] (double) = f[rs1] (single), widened (R188). -/
  | fcvtDS (rd rs1 : Reg) (rm : RoundingCode)
  deriving DecidableEq, Repr

/-- The mnemonic of 30_encoding.md R67, as the opcode table spells it. -/
def Instr.mnemonic : Instr → String
  | .fmaddS _ _ _ _ _ => "FMADD.S"
  | .fmsubS _ _ _ _ _ => "FMSUB.S"
  | .fnmsubS _ _ _ _ _ => "FNMSUB.S"
  | .fnmaddS _ _ _ _ _ => "FNMADD.S"
  | .fmaddD _ _ _ _ _ => "FMADD.D"
  | .fmsubD _ _ _ _ _ => "FMSUB.D"
  | .fnmsubD _ _ _ _ _ => "FNMSUB.D"
  | .fnmaddD _ _ _ _ _ => "FNMADD.D"
  | .faddS _ _ _ _ => "FADD.S"
  | .fsubS _ _ _ _ => "FSUB.S"
  | .fmulS _ _ _ _ => "FMUL.S"
  | .fdivS _ _ _ _ => "FDIV.S"
  | .fsqrtS _ _ _ => "FSQRT.S"
  | .fminS _ _ _ => "FMIN.S"
  | .fmaxS _ _ _ => "FMAX.S"
  | .fleS _ _ _ => "FLE.S"
  | .fltS _ _ _ => "FLT.S"
  | .feqS _ _ _ => "FEQ.S"
  | .fcvtWS _ _ _ => "FCVT.W.S"
  | .fcvtWuS _ _ _ => "FCVT.WU.S"
  | .fcvtLS _ _ _ => "FCVT.L.S"
  | .fcvtLuS _ _ _ => "FCVT.LU.S"
  | .fcvtSW _ _ _ => "FCVT.S.W"
  | .fcvtSWu _ _ _ => "FCVT.S.WU"
  | .fcvtSL _ _ _ => "FCVT.S.L"
  | .fcvtSLu _ _ _ => "FCVT.S.LU"
  | .fclassS _ _ => "FCLASS.S"
  | .faddD _ _ _ _ => "FADD.D"
  | .fsubD _ _ _ _ => "FSUB.D"
  | .fmulD _ _ _ _ => "FMUL.D"
  | .fdivD _ _ _ _ => "FDIV.D"
  | .fsqrtD _ _ _ => "FSQRT.D"
  | .fminD _ _ _ => "FMIN.D"
  | .fmaxD _ _ _ => "FMAX.D"
  | .fleD _ _ _ => "FLE.D"
  | .fltD _ _ _ => "FLT.D"
  | .feqD _ _ _ => "FEQ.D"
  | .fcvtWD _ _ _ => "FCVT.W.D"
  | .fcvtWuD _ _ _ => "FCVT.WU.D"
  | .fcvtLD _ _ _ => "FCVT.L.D"
  | .fcvtLuD _ _ _ => "FCVT.LU.D"
  | .fcvtDW _ _ _ => "FCVT.D.W"
  | .fcvtDWu _ _ _ => "FCVT.D.WU"
  | .fcvtDL _ _ _ => "FCVT.D.L"
  | .fcvtDLu _ _ _ => "FCVT.D.LU"
  | .fclassD _ _ => "FCLASS.D"
  | .fcvtSD _ _ _ => "FCVT.S.D"
  | .fcvtDS _ _ _ => "FCVT.D.S"

end Sys2Proof
end

