-- ==== Sys2Proof/Machine/Operands.lean ====
section
/-! DEFINITION. The operand and result ports: the register files and the boxing adapter (10_state.md R32 to R34), the widths of
integer results (45_convert.md R169), and which operations have a rounding code or pass the gate (30_encoding.md R70). -/

namespace Sys2Proof.Machine

/-! ## Register files (10_state.md R32, R33) -/

/-- f[r]: no FP register is hardwired (R33). -/
def readF (r : Reg) (s : State) : FpWord := s.f.get r.toFin

/-- f[r] ← v. -/
def writeF (r : Reg) (v : FpWord) (s : State) : State := { s with f := s.f.set r.toNat v r.isLt }

/-- The low XLEN bits of v (R32; log entry 13). -/
def truncXlen (xlen : Xlen) (v : XWord) : XWord :=
  match xlen with
  | .rv32 => v &&& 0xFFFFFFFF#64
  | .rv64 => v

/-- x[r]: x0 reads as 0 (R32). -/
def readX (r : Reg) (s : State) : XWord := if r = 0#5 then 0#64 else s.x.get r.toFin

/-- x[r] ← v, XLEN bits: a result written to x0 is discarded (R32). -/
def writeX (r : Reg) (v : XWord) (s : State) : State :=
  if r = 0#5 then s else { s with x := s.x.set r.toNat (truncXlen s.build.xlen v) r.isLt }

/-! ## The boxing adapter (10_state.md R34) -/

/-- read_S. -/
def readS (b : BoxMode) (r : FpWord) : BitVec 32 :=
  match b with
  | .nanBox => if r.extractLsb' 32 32 = 0xFFFFFFFF#32 then r.extractLsb' 0 32 else 0x7FC00000#32
  | .truncate => r.extractLsb' 0 32

/-- write_S. -/
def writeS (b : BoxMode) (v : BitVec 32) : FpWord :=
  match b with
  | .nanBox => 0xFFFFFFFF#32 ++ v
  | .truncate => v.zeroExtend 64

/-- The value an FP operand port carries for f[r]: 32 bits through the adapter for S, 64 bits unchanged for D (R33). -/
def readPort (fmt : Fmt) (r : Reg) (s : State) : Pattern fmt :=
  match fmt with
  | .S => readS s.build.f32Box (readF r s)
  | .D => readF r s

/-- What the CPU writes to f[rd] for a result of the format (R33, R34). -/
def toFpWord (b : BoxMode) (fmt : Fmt) (v : Pattern fmt) : FpWord :=
  match fmt, v with
  | .S, v => writeS b v
  | .D, v => v

/-- The outcome Fp(v), 32 bits for an S result and 64 for a D result (R33, R36). -/
def fpOutcome (fmt : Fmt) (v : Pattern fmt) : OpOutcome :=
  match fmt, v with
  | .S, v => .fp32 v
  | .D, v => .fp64 v

/-! ## Integer types (45_convert.md, introduction, R169) -/

/-- The integer types of the conversions. -/
inductive IntType where
  | w
  | wu
  | l
  | lu
  deriving DecidableEq, Repr

/-- The least value of the type. -/
def IntType.min : IntType → Int
  | .w => -2 ^ 31
  | .wu => 0
  | .l => -2 ^ 63
  | .lu => 0

/-- The greatest value of the type, which is also the result for a NaN (R169). -/
def IntType.max : IntType → Int
  | .w => 2 ^ 31 - 1
  | .wu => 2 ^ 32 - 1
  | .l => 2 ^ 63 - 1
  | .lu => 2 ^ 64 - 1

/-- The integer result r of a type, widened to XLEN bits: W and WU sign-extend the 32-bit pattern from bit 31, L and LU are the
64-bit pattern (R169). -/
def intResult (xlen : Xlen) (t : IntType) (r : Int) : XWord :=
  match t with
  | .w => truncXlen xlen ((BitVec.ofInt 32 r).signExtend 64)
  | .wu => truncXlen xlen ((BitVec.ofInt 32 r).signExtend 64)
  | .l => BitVec.ofInt 64 r
  | .lu => BitVec.ofInt 64 r

/-- The integer that an integer-to-float conversion reads from `port.i`: the low n bits, signed for W and L (R178). -/
def intOperand (t : IntType) (i : XWord) : Int :=
  match t with
  | .w => (i.extractLsb' 0 32).toInt
  | .wu => (i.extractLsb' 0 32).toNat
  | .l => i.toInt
  | .lu => i.toNat

/-! ## The RD and G columns of 30_encoding.md R70 -/

/-- The rounding code of a rounding-dependent operation; none for the operations that never invoke the Resolver
(40_control_path.md R87). -/
def roundingCode : Instr → Option RoundingCode
  | .fmaddS _ _ _ _ rm => some rm
  | .fmsubS _ _ _ _ rm => some rm
  | .fnmsubS _ _ _ _ rm => some rm
  | .fnmaddS _ _ _ _ rm => some rm
  | .fmaddD _ _ _ _ rm => some rm
  | .fmsubD _ _ _ _ rm => some rm
  | .fnmsubD _ _ _ _ rm => some rm
  | .fnmaddD _ _ _ _ rm => some rm
  | .faddS _ _ _ rm => some rm
  | .fsubS _ _ _ rm => some rm
  | .fmulS _ _ _ rm => some rm
  | .fdivS _ _ _ rm => some rm
  | .fsqrtS _ _ rm => some rm
  | .fminS _ _ _ => none
  | .fmaxS _ _ _ => none
  | .fleS _ _ _ => none
  | .fltS _ _ _ => none
  | .feqS _ _ _ => none
  | .fcvtWS _ _ rm => some rm
  | .fcvtWuS _ _ rm => some rm
  | .fcvtLS _ _ rm => some rm
  | .fcvtLuS _ _ rm => some rm
  | .fcvtSW _ _ rm => some rm
  | .fcvtSWu _ _ rm => some rm
  | .fcvtSL _ _ rm => some rm
  | .fcvtSLu _ _ rm => some rm
  | .fclassS _ _ => none
  | .faddD _ _ _ rm => some rm
  | .fsubD _ _ _ rm => some rm
  | .fmulD _ _ _ rm => some rm
  | .fdivD _ _ _ rm => some rm
  | .fsqrtD _ _ rm => some rm
  | .fminD _ _ _ => none
  | .fmaxD _ _ _ => none
  | .fleD _ _ _ => none
  | .fltD _ _ _ => none
  | .feqD _ _ _ => none
  | .fcvtWD _ _ rm => some rm
  | .fcvtWuD _ _ rm => some rm
  | .fcvtLD _ _ rm => some rm
  | .fcvtLuD _ _ rm => some rm
  | .fcvtDW _ _ rm => some rm
  | .fcvtDWu _ _ rm => some rm
  | .fcvtDL _ _ rm => some rm
  | .fcvtDLu _ _ rm => some rm
  | .fclassD _ _ => none
  | .fcvtSD _ _ rm => some rm
  | .fcvtDS _ _ rm => some rm

/-- gated(op): true but for FCLASS, for which it is CLASSIFY_GATED (40_control_path.md R80, R83). -/
def gated (c : Config) : Instr → Bool
  | .fmaddS _ _ _ _ _ => true
  | .fmsubS _ _ _ _ _ => true
  | .fnmsubS _ _ _ _ _ => true
  | .fnmaddS _ _ _ _ _ => true
  | .fmaddD _ _ _ _ _ => true
  | .fmsubD _ _ _ _ _ => true
  | .fnmsubD _ _ _ _ _ => true
  | .fnmaddD _ _ _ _ _ => true
  | .faddS _ _ _ _ => true
  | .fsubS _ _ _ _ => true
  | .fmulS _ _ _ _ => true
  | .fdivS _ _ _ _ => true
  | .fsqrtS _ _ _ => true
  | .fminS _ _ _ => true
  | .fmaxS _ _ _ => true
  | .fleS _ _ _ => true
  | .fltS _ _ _ => true
  | .feqS _ _ _ => true
  | .fcvtWS _ _ _ => true
  | .fcvtWuS _ _ _ => true
  | .fcvtLS _ _ _ => true
  | .fcvtLuS _ _ _ => true
  | .fcvtSW _ _ _ => true
  | .fcvtSWu _ _ _ => true
  | .fcvtSL _ _ _ => true
  | .fcvtSLu _ _ _ => true
  | .fclassS _ _ => c.classifyGated
  | .faddD _ _ _ _ => true
  | .fsubD _ _ _ _ => true
  | .fmulD _ _ _ _ => true
  | .fdivD _ _ _ _ => true
  | .fsqrtD _ _ _ => true
  | .fminD _ _ _ => true
  | .fmaxD _ _ _ => true
  | .fleD _ _ _ => true
  | .fltD _ _ _ => true
  | .feqD _ _ _ => true
  | .fcvtWD _ _ _ => true
  | .fcvtWuD _ _ _ => true
  | .fcvtLD _ _ _ => true
  | .fcvtLuD _ _ _ => true
  | .fcvtDW _ _ _ => true
  | .fcvtDWu _ _ _ => true
  | .fcvtDL _ _ _ => true
  | .fcvtDLu _ _ _ => true
  | .fclassD _ _ => c.classifyGated
  | .fcvtSD _ _ _ => true
  | .fcvtDS _ _ _ => true

end Sys2Proof.Machine
end

