-- ==== Sys2Proof/Machine/Round.lean ====
section
/-! DEFINITION. Correct rounding of an exact nonzero magnitude (41_ieee_numerics.md R106 to R109, R116, R118).

An exact magnitude m is a quotient of two natural numbers, or the square root of one (the only reals the rules round). All that
rounding asks of n = m / 2^q is its floor and where its remainder r lies: 0, below 1/2, 1/2, or above 1/2. Both are computed exactly
(log entry 17). -/

namespace Sys2Proof.Machine

/-- An exact positive magnitude: num / den, or its square root (00_scope.md R14). The denominator is positive. -/
inductive Magnitude where
  | ratio (num den : Nat)
  | root (num den : Nat)
  deriving DecidableEq, Repr

/-- Where the remainder r = n - floor(n) lies (R106). -/
inductive Tail where
  | zero
  | low
  | half
  | high
  deriving DecidableEq, Repr

/-- num / den / 2^q as a quotient of naturals. -/
def scaled (num den : Nat) (q : Int) : Nat × Nat := (num * 2 ^ (-q).toNat, den * 2 ^ q.toNat)

/-- The remainder of num / den. -/
def tailOf (num den : Nat) : Tail :=
  let r := num % den
  if r = 0 then .zero
  else if 2 * r < den then .low
  else if 2 * r = den then .half
  else .high

/-- floor(log2 (num / den)): the exponents' difference, or one less. -/
def floorLog2Ratio (num den : Nat) : Int :=
  let e : Int := (num.log2 : Int) - (den.log2 : Int)
  if (scaled num den e).2 ≤ (scaled num den e).1 then e else e - 1

/-- The integer square root, one bit at a time from bit `bits - 1` down: the largest r' ≥ r with r' * r' ≤ n. -/
def isqrtFrom (n : Nat) : Nat → Nat → Nat
  | 0, r => r
  | bits + 1, r => isqrtFrom n bits (if (r + 2 ^ bits) * (r + 2 ^ bits) ≤ n then r + 2 ^ bits else r)

/-- isqrt(n) = floor(sqrt n) (R118). -/
def isqrt (n : Nat) : Nat := isqrtFrom n (n.log2 / 2 + 1) 0

/-- The remainder of the square root of num / den above its floor f (R118): r > 0 iff n^2 > f^2, r > 1/2 iff n^2 > (f + 1/2)^2. -/
def rootTail (num den f : Nat) : Tail :=
  if num = den * (f * f) then .zero
  else if 4 * num < den * ((2 * f + 1) * (2 * f + 1)) then .low
  else if 4 * num = den * ((2 * f + 1) * (2 * f + 1)) then .half
  else .high

/-- floor(log2 m); for a root, floor(floor(log2 m^2) / 2) (R118). -/
def Magnitude.floorLog2 : Magnitude → Int
  | .ratio num den => floorLog2Ratio num den
  | .root num den => floorLog2Ratio num den / 2

/-- floor(n) and the place of r, for n = m / 2^q (R106, R118). -/
def Magnitude.split (m : Magnitude) (q : Int) : Nat × Tail :=
  match m with
  | .ratio num den =>
    let n := scaled num den q
    (n.1 / n.2, tailOf n.1 n.2)
  | .root num den =>
    let n := scaled num den (2 * q)
    let f := isqrt (n.1 / n.2)
    (f, rootTail n.1 n.2 f)

/-- rnd_int(n, dir, s) from floor(n) and the place of r (R106). -/
def rndInt (f : Nat) (r : Tail) (dir : Directive) (s : Bool) : Nat :=
  match dir with
  | .rne =>
    match r with
    | .zero => f
    | .low => f
    | .half => if f % 2 = 0 then f else f + 1
    | .high => f + 1
  | .rmm =>
    match r with
    | .zero => f
    | .low => f
    | .half => f + 1
    | .high => f + 1
  | .rtz => f
  | .rdn => if s = true ∧ r ≠ .zero then f + 1 else f
  | .rup => if s = false ∧ r ≠ .zero then f + 1 else f

/-- The result of a primitive and the set of IEEE flags it raised (40_control_path.md R80). -/
structure Raised (α : Type) where
  result : α
  raised : FlagSet
  deriving DecidableEq, Repr

/-- The overflow result by direction and sign (R108). -/
def overflowPattern (fmt : Fmt) (s : Bool) : Directive → Pattern fmt
  | .rne => infinity fmt s
  | .rmm => infinity fmt s
  | .rtz => maxFinite fmt s
  | .rdn => if s then infinity fmt s else maxFinite fmt s
  | .rup => if s then maxFinite fmt s else infinity fmt s

/-- tiny(fmt, x, dir) (R109). After rounding: y' = rnd_int(m / 2^(e - F)) * 2^(e - F) < 2^emin, which no m with e ≥ emin meets. -/
def tiny (t : Tininess) (fmt : Fmt) (s : Bool) (m : Magnitude) (dir : Directive) : Bool :=
  let e := m.floorLog2
  match t with
  | .afterRounding =>
    let n := m.split (e - fracBits fmt)
    decide (e < emin fmt) && decide (rndInt n.1 n.2 dir s < 2 ^ (emin fmt - e + fracBits fmt).toNat)
  | .beforeRounding => decide (e < emin fmt)

/-- The quantum's exponent q = max(e, emin) - F, for e = floor(log2 m) (R106). -/
def quantumExp (fmt : Fmt) (m : Magnitude) : Int := max m.floorLog2 (emin fmt) - fracBits fmt

/-- The rounded magnitude y = k * 2^q of R106, in units of MINSUB, and whether y ≠ m. -/
def roundedUnits (fmt : Fmt) (s : Bool) (m : Magnitude) (dir : Directive) : Nat × Bool :=
  let q := quantumExp fmt m
  let n := m.split q
  (rndInt n.1 n.2 dir s * 2 ^ (q - (emin fmt - fracBits fmt)).toNat, decide (n.2 ≠ .zero))

/-- round(fmt, x, dir) for x of sign s and nonzero magnitude m, with its flags (R106 to R109). -/
def round (t : Tininess) (fmt : Fmt) (s : Bool) (m : Magnitude) (dir : Directive) : Raised (Pattern fmt) :=
  let y := roundedUnits fmt s m dir
  if maxUnits fmt < y.1 then ⟨overflowPattern fmt s dir, flagOF ||| flagNX⟩
  else ⟨pack fmt s y.1, flagIf (tiny t fmt s m dir && y.2) flagUF ||| flagIf y.2 flagNX⟩

/-- The magnitude of a finite pattern: units(v) * MINSUB (R103). -/
def magnitudeOf (fmt : Fmt) (v : Pattern fmt) : Magnitude := .ratio (units fmt v) (2 ^ minsubExp fmt)

/-- rndint(val(v), dir) for a finite pattern v, and whether it differs from val(v) (R116). -/
def roundToInt (fmt : Fmt) (v : Pattern fmt) (dir : Directive) : Int × Bool :=
  let n := (magnitudeOf fmt v).split 0
  let k := rndInt n.1 n.2 dir (signOf fmt v)
  (if signOf fmt v then -(k : Int) else k, decide (n.2 ≠ .zero))

end Sys2Proof.Machine
end

