-- ==== Sys2Proof/Machine/Ops.lean ====
section
/-! DEFINITION. The operation sequence of 40_control_path.md R80 as named operations over the state: the Privilege Gate (R81), the
Rounding-Mode Resolver (R85), the trap outcome (60_exceptions.md R194), the Exception-Flag Translator (R88), the NaN draw
(41_ieee_numerics.md R112), and the CPU's writing of a result (10_state.md R32 to R34).

The block has no memory (20_memory.md R50), so no operation here reads or writes one. -/

namespace Sys2Proof.Machine

/-- What a step answers. -/
abbrev StepResult := Host.Outcome State Fault Refusal

/-! ## Updates of the state -/

/-- s.lib_rm ← dir (40_control_path.md R80, step 2). -/
def setLibRm (dir : Directive) (s : State) : State := { s with libRm := dir }

/-- s.lib_flags ← 0, before a primitive (R80, step 4; R91). -/
def clearLibFlags (s : State) : State := { s with libFlags := 0#5 }

/-- s.lib_flags ← s.lib_flags | raised (R80, step 4). -/
def raiseLibFlags (raised : FlagSet) (s : State) : State := { s with libFlags := s.libFlags ||| raised }

/-- The Translator: it reads lib_flags, empties it, and ORs the translated bits into fflags (R88). -/
def drain (s : State) : State := { s with fflags := s.fflags ||| translate s.libFlags, libFlags := 0#5 }

/-- The record of one more outcome handed back (70_reset_and_hazards.md R222; log entry 7). -/
def record (o : OpOutcome) (s : State) : State := { s with outcomes := o :: s.outcomes }

/-! ## Taking a trap (60_exceptions.md R194) -/

/-- The outcome Trap(IllegalInstruction): no destination is written and no state of the block changes (R194). There is no return
from it inside the block (R198). -/
def takeTrap (s : State) : State := record (.trap .illegalInstruction) s

/-- The cause code the privileged architecture gives to the exception (R195). -/
def TrapCause.code : TrapCause → Nat
  | .illegalInstruction => 2

/-! ## Privilege Gate (40_control_path.md R81) -/

/-- The gate fails: GATE_PRESENT is true, the operation is gated, and fp_enabled = 0. -/
def gateFails (isGated : Bool) (s : State) : Bool := s.build.gatePresent && isGated && !s.fpEnabled

/-! ## Rounding-Mode Resolver (40_control_path.md R85) -/

/-- The directive of a resolved code; 5, 6 and 7 have no mapping. -/
def directiveOf (code : BitVec 3) : Option Directive :=
  if code = 0#3 then some .rne
  else if code = 1#3 then some .rtz
  else if code = 2#3 then some .rdn
  else if code = 3#3 then some .rup
  else if code = 4#3 then some .rmm
  else none

/-- resolve(s, code): code 7 substitutes `frm`, once (R85). -/
def resolve (s : State) (code : RoundingCode) : Option Directive :=
  directiveOf (if code = 7#3 then s.frm else code)

/-! ## Primitive and Translator (40_control_path.md R80, steps 4 and 5) -/

/-- lib_flags is cleared, receives the flags the primitive raised, and is drained. -/
def accumulate (raised : FlagSet) (s : State) : State := drain (raiseLibFlags raised (clearLibFlags s))

/-! ## Handing a result to the CPU (10_state.md R32 to R34) -/

/-- Fp(v) is handed back and the CPU writes it to f[rd]. -/
def completeFp (fmt : Fmt) (rd : Reg) (v : Pattern fmt) (s : State) : State :=
  record (fpOutcome fmt v) (writeF rd (toFpWord s.build.f32Box fmt v) s)

/-- Int(v) is handed back and the CPU writes it to x[rd]. -/
def completeInt (rd : Reg) (v : XWord) (s : State) : State := record (.int v) (writeX rd v s)

/-- What a floating-point primitive returns: a pattern, or "NaN", whose pattern R112 chooses. -/
inductive FpResult (fmt : Fmt) where
  | number (v : Pattern fmt)
  | nan
  deriving DecidableEq, Repr

/-- The NaN of R112: the canonical one, or under NAN_MODE = Propagate any quiet NaN, drawn on this operation. -/
def nanPattern (fmt : Fmt) (s : State) : Pattern fmt :=
  match s.build.nanMode with
  | .canonical => canonicalNaN s.build fmt
  | .propagate => quietNaN s.build fmt (Config.freeNaN s.draws)

/-- The draw made: the next NaN result is a new one (R112). -/
def countDraw (s : State) : State :=
  match s.build.nanMode with
  | .canonical => s
  | .propagate => { s with draws := s.draws + 1 }

/-- The result of a floating-point primitive, handed back. -/
def deliverFp (fmt : Fmt) (rd : Reg) (r : FpResult fmt) (s : State) : State :=
  match r with
  | .number v => completeFp fmt rd v s
  | .nan => completeFp fmt rd (nanPattern fmt s) (countDraw s)

/-- A floating-point primitive's flags accumulated and its result handed back (R80, steps 4 to 5). -/
def finishFp (fmt : Fmt) (rd : Reg) (p : Raised (FpResult fmt)) (s : State) : State :=
  deliverFp fmt rd p.result (accumulate p.raised s)

/-- An integer-valued primitive's flags accumulated and its result handed back (R80, steps 4 to 5). -/
def finishInt (rd : Reg) (p : Raised XWord) (s : State) : State :=
  completeInt rd p.result (accumulate p.raised s)

/-! ## The sequence (40_control_path.md R80) -/

/-- A rounding-dependent operation: the gate, then the Resolver, whose directive is installed in lib_rm, then `body`. -/
def roundingOp (rm : RoundingCode) (body : Directive → State → State) (s : State) : StepResult :=
  if gateFails true s then .next (takeTrap s)
  else
    match resolve s rm with
    | none => .next (takeTrap s)
    | some dir => .next (body dir (setLibRm dir s))

/-- An operation that does not invoke the Resolver (R87): the gate, then `body`. -/
def plainOp (isGated : Bool) (body : State → State) (s : State) : StepResult :=
  if gateFails isGated s then .next (takeTrap s) else .next (body s)

/-- An L or LU conversion: refused when XLEN = 32, since the operation does not exist then (60_exceptions.md R208). -/
def onRv64 (op : State → StepResult) (s : State) : StepResult :=
  match s.build.xlen with
  | .rv32 => .refused .absentOperation
  | .rv64 => op s

end Sys2Proof.Machine
end

