-- ==== Sys2Proof/Machine/Fused.lean ====
section
/-! DEFINITION. The fused multiply-add family (42_fma.md). -/

namespace Sys2Proof.Machine

/-- The sign of an exactly zero sum of two terms (41_ieee_numerics.md R110): two zeros of one sign keep it; otherwise +0, and -0
under RDN. -/
def zeroSumSign (sx sy : Bool) (dir : Directive) : Bool :=
  if sx = sy then sx else decide (dir = .rdn)

/-- The NaN result with its invalid flag (41_ieee_numerics.md R112, R113). -/
def nanResult (fmt : Fmt) (invalid : Bool) : Raised (FpResult fmt) := ⟨.nan, flagIf invalid flagNV⟩

/-- An exact result, no flag (41_ieee_numerics.md R115). -/
def exactResult {fmt : Fmt} (v : Pattern fmt) : Raised (FpResult fmt) := ⟨.number v, noFlags⟩

/-- round(fmt, x, dir) of a nonzero x of sign s and magnitude m, as a primitive's result. -/
def roundedResult (c : Config) (fmt : Fmt) (s : Bool) (m : Magnitude) (dir : Directive) : Raised (FpResult fmt) :=
  let r := round c.tininess fmt s m dir
  ⟨.number r.result, r.raised⟩

/-- The product of the multiplicands, a whole number of MINSUB², plus the addend brought to the same unit: X = P + val(c) (R131). -/
def fusedSum (fmt : Fmt) (a b c : Pattern fmt) : Int :=
  signedUnits fmt a * signedUnits fmt b + signedUnits fmt c * 2 ^ minsubExp fmt

/-- fma(fmt, a, b, c, dir): one exact multiply-add with one rounding (R131). -/
def fma (cfg : Config) (fmt : Fmt) (a b c : Pattern fmt) (dir : Directive) : Raised (FpResult fmt) :=
  let infZero := (isInf fmt a && isZero fmt b) || (isZero fmt a && isInf fmt b)
  let sp := signOf fmt a ^^ signOf fmt b
  let x := fusedSum fmt a b c
  if isNaN fmt a || isNaN fmt b || isNaN fmt c then
    nanResult fmt (isSNaN cfg fmt a || isSNaN cfg fmt b || isSNaN cfg fmt c || infZero)
  else if infZero then nanResult fmt true
  else if isInf fmt a || isInf fmt b then
    if isInf fmt c && (signOf fmt c != sp) then nanResult fmt true
    else exactResult (infinity fmt sp)
  else if isInf fmt c then exactResult c
  else if x = 0 then exactResult (zero fmt (zeroSumSign sp (signOf fmt c) dir))
  else roundedResult cfg fmt (decide (x < 0)) (.ratio x.natAbs (2 ^ (2 * minsubExp fmt))) dir

/-- The shared body of the four variants: the flips, then fma, then the hand-back (R130 to R139). -/
def fusedBody (fmt : Fmt) (flipA flipC : Bool) (rd rs1 rs2 rs3 : Reg) (dir : Directive) (s : State) : State :=
  let a := readPort fmt rs1 s
  let b := readPort fmt rs2 s
  let c := readPort fmt rs3 s
  finishFp fmt rd (fma s.build fmt (if flipA then flip fmt a else a) b (if flipC then flip fmt c else c) dir) s

/-- FMADD.S (R132): nothing is flipped. -/
def execFmaddS (rd rs1 rs2 rs3 : Reg) (rm : RoundingCode) (s : State) : StepResult :=
  roundingOp rm (fusedBody .S false false rd rs1 rs2 rs3) s

/-- FMSUB.S (R133): only operand 3 is flipped. -/
def execFmsubS (rd rs1 rs2 rs3 : Reg) (rm : RoundingCode) (s : State) : StepResult :=
  roundingOp rm (fusedBody .S false true rd rs1 rs2 rs3) s

/-- FNMSUB.S (R134): only operand 1 is flipped. -/
def execFnmsubS (rd rs1 rs2 rs3 : Reg) (rm : RoundingCode) (s : State) : StepResult :=
  roundingOp rm (fusedBody .S true false rd rs1 rs2 rs3) s

/-- FNMADD.S (R135): operands 1 and 3 are flipped. -/
def execFnmaddS (rd rs1 rs2 rs3 : Reg) (rm : RoundingCode) (s : State) : StepResult :=
  roundingOp rm (fusedBody .S true true rd rs1 rs2 rs3) s

/-- FMADD.D (R136): nothing is flipped. -/
def execFmaddD (rd rs1 rs2 rs3 : Reg) (rm : RoundingCode) (s : State) : StepResult :=
  roundingOp rm (fusedBody .D false false rd rs1 rs2 rs3) s

/-- FMSUB.D (R137): only operand 3 is flipped. -/
def execFmsubD (rd rs1 rs2 rs3 : Reg) (rm : RoundingCode) (s : State) : StepResult :=
  roundingOp rm (fusedBody .D false true rd rs1 rs2 rs3) s

/-- FNMSUB.D (R138): only operand 1 is flipped. -/
def execFnmsubD (rd rs1 rs2 rs3 : Reg) (rm : RoundingCode) (s : State) : StepResult :=
  roundingOp rm (fusedBody .D true false rd rs1 rs2 rs3) s

/-- FNMADD.D (R139): operands 1 and 3 are flipped. -/
def execFnmaddD (rd rs1 rs2 rs3 : Reg) (rm : RoundingCode) (s : State) : StepResult :=
  roundingOp rm (fusedBody .D true true rd rs1 rs2 rs3) s

end Sys2Proof.Machine
end

