-- ==== Sys2Proof/Machine/Arith.lean ====
section
/-! DEFINITION. Binary arithmetic and square root (43_arith.md). -/

namespace Sys2Proof.Machine

/-- add(fmt, a, b, dir) (R141). -/
def add (cfg : Config) (fmt : Fmt) (a b : Pattern fmt) (dir : Directive) : Raised (FpResult fmt) :=
  let x := signedUnits fmt a + signedUnits fmt b
  if isNaN fmt a || isNaN fmt b then nanResult fmt (isSNaN cfg fmt a || isSNaN cfg fmt b)
  else if isInf fmt a && isInf fmt b then
    if signOf fmt a != signOf fmt b then nanResult fmt true else exactResult a
  else if isInf fmt a then exactResult a
  else if isInf fmt b then exactResult b
  else if x = 0 then exactResult (zero fmt (zeroSumSign (signOf fmt a) (signOf fmt b) dir))
  else roundedResult cfg fmt (decide (x < 0)) (.ratio x.natAbs (2 ^ minsubExp fmt)) dir

/-- sub(fmt, a, b, dir) = add(fmt, a, flip(fmt, b), dir) (R141). -/
def sub (cfg : Config) (fmt : Fmt) (a b : Pattern fmt) (dir : Directive) : Raised (FpResult fmt) :=
  add cfg fmt a (flip fmt b) dir

/-- mul(fmt, a, b, dir) (R142). -/
def mul (cfg : Config) (fmt : Fmt) (a b : Pattern fmt) (dir : Directive) : Raised (FpResult fmt) :=
  let s := signOf fmt a ^^ signOf fmt b
  let x := units fmt a * units fmt b
  if isNaN fmt a || isNaN fmt b then nanResult fmt (isSNaN cfg fmt a || isSNaN cfg fmt b)
  else if (isInf fmt a && isZero fmt b) || (isZero fmt a && isInf fmt b) then nanResult fmt true
  else if isInf fmt a || isInf fmt b then exactResult (infinity fmt s)
  else if x = 0 then exactResult (zero fmt s)
  else roundedResult cfg fmt s (.ratio x (2 ^ (2 * minsubExp fmt))) dir

/-- div(fmt, a, b, dir): the only primitive that raises divide-by-zero (R143). -/
def div (cfg : Config) (fmt : Fmt) (a b : Pattern fmt) (dir : Directive) : Raised (FpResult fmt) :=
  let s := signOf fmt a ^^ signOf fmt b
  if isNaN fmt a || isNaN fmt b then nanResult fmt (isSNaN cfg fmt a || isSNaN cfg fmt b)
  else if (isZero fmt a && isZero fmt b) || (isInf fmt a && isInf fmt b) then nanResult fmt true
  else if isInf fmt a then exactResult (infinity fmt s)
  else if isInf fmt b then exactResult (zero fmt s)
  else if isZero fmt b then ⟨.number (infinity fmt s), flagDZ⟩
  else if isZero fmt a then exactResult (zero fmt s)
  else roundedResult cfg fmt s (.ratio (units fmt a) (units fmt b)) dir

/-- sqrt(fmt, a, dir) (R144), by the exact method of 41_ieee_numerics.md R118. -/
def sqrt (cfg : Config) (fmt : Fmt) (a : Pattern fmt) (dir : Directive) : Raised (FpResult fmt) :=
  if isNaN fmt a then nanResult fmt (isSNaN cfg fmt a)
  else if isZero fmt a then exactResult a
  else if signOf fmt a then nanResult fmt true
  else if isInf fmt a then exactResult a
  else roundedResult cfg fmt false (.root (units fmt a) (2 ^ minsubExp fmt)) dir

/-- The shared body of the two-operand operations: the operand ports, the primitive, the hand-back. -/
def binaryBody (fmt : Fmt) (prim : Config → Pattern fmt → Pattern fmt → Directive → Raised (FpResult fmt))
    (rd rs1 rs2 : Reg) (dir : Directive) (s : State) : State :=
  finishFp fmt rd (prim s.build (readPort fmt rs1 s) (readPort fmt rs2 s) dir) s

/-- The body of the square root. -/
def sqrtBody (fmt : Fmt) (rd rs1 : Reg) (dir : Directive) (s : State) : State :=
  finishFp fmt rd (sqrt s.build fmt (readPort fmt rs1 s) dir) s

/-- FADD.S (R145). -/
def execFaddS (rd rs1 rs2 : Reg) (rm : RoundingCode) (s : State) : StepResult :=
  roundingOp rm (binaryBody .S (fun c a b dir => add c .S a b dir) rd rs1 rs2) s

/-- FSUB.S (R146). -/
def execFsubS (rd rs1 rs2 : Reg) (rm : RoundingCode) (s : State) : StepResult :=
  roundingOp rm (binaryBody .S (fun c a b dir => sub c .S a b dir) rd rs1 rs2) s

/-- FMUL.S (R147). -/
def execFmulS (rd rs1 rs2 : Reg) (rm : RoundingCode) (s : State) : StepResult :=
  roundingOp rm (binaryBody .S (fun c a b dir => mul c .S a b dir) rd rs1 rs2) s

/-- FDIV.S (R148). -/
def execFdivS (rd rs1 rs2 : Reg) (rm : RoundingCode) (s : State) : StepResult :=
  roundingOp rm (binaryBody .S (fun c a b dir => div c .S a b dir) rd rs1 rs2) s

/-- FSQRT.S (R149). -/
def execFsqrtS (rd rs1 : Reg) (rm : RoundingCode) (s : State) : StepResult :=
  roundingOp rm (sqrtBody .S rd rs1) s

/-- FADD.D (R150). -/
def execFaddD (rd rs1 rs2 : Reg) (rm : RoundingCode) (s : State) : StepResult :=
  roundingOp rm (binaryBody .D (fun c a b dir => add c .D a b dir) rd rs1 rs2) s

/-- FSUB.D (R151). -/
def execFsubD (rd rs1 rs2 : Reg) (rm : RoundingCode) (s : State) : StepResult :=
  roundingOp rm (binaryBody .D (fun c a b dir => sub c .D a b dir) rd rs1 rs2) s

/-- FMUL.D (R152). -/
def execFmulD (rd rs1 rs2 : Reg) (rm : RoundingCode) (s : State) : StepResult :=
  roundingOp rm (binaryBody .D (fun c a b dir => mul c .D a b dir) rd rs1 rs2) s

/-- FDIV.D (R153). -/
def execFdivD (rd rs1 rs2 : Reg) (rm : RoundingCode) (s : State) : StepResult :=
  roundingOp rm (binaryBody .D (fun c a b dir => div c .D a b dir) rd rs1 rs2) s

/-- FSQRT.D (R154). -/
def execFsqrtD (rd rs1 : Reg) (rm : RoundingCode) (s : State) : StepResult :=
  roundingOp rm (sqrtBody .D rd rs1) s

end Sys2Proof.Machine
end

