-- ==== Sys2Proof/Machine/Classify.lean ====
section
/-! DEFINITION. The classifier (46_classify.md): the only operation that bypasses the Resolver and the Translator alike
(40_control_path.md R93). -/

namespace Sys2Proof.Machine

/-- classify(fmt, v): the 10-bit class vector of the decision table (R190), keyed on sign, exponent class, fraction and quiet bit. -/
def classify (cfg : Config) (fmt : Fmt) (v : Pattern fmt) : BitVec 10 :=
  let e1 := expOf fmt v = expMax fmt
  let e0 := expOf fmt v = 0
  let z := fracOf fmt v = 0
  if e1 then
    if z then (if signOf fmt v then 0x001#10 else 0x080#10)
    else if isSNaN cfg fmt v then 0x100#10
    else 0x200#10
  else if e0 then
    if z then (if signOf fmt v then 0x008#10 else 0x010#10)
    else (if signOf fmt v then 0x004#10 else 0x020#10)
  else (if signOf fmt v then 0x002#10 else 0x040#10)

/-- Step 3 of 40_control_path.md R80: the vector, zero-extended to XLEN, is handed back; no flag and no lib state is touched. -/
def classifyBody (fmt : Fmt) (rd rs1 : Reg) (s : State) : State :=
  completeInt rd ((classify s.build fmt (readPort fmt rs1 s)).zeroExtend 64) s

/-- FCLASS.S (R191): gated only when CLASSIFY_GATED is true (40_control_path.md R83). -/
def execFclassS (rd rs1 : Reg) (s : State) : StepResult :=
  plainOp s.build.classifyGated (classifyBody .S rd rs1) s

/-- FCLASS.D (R192): gated only when CLASSIFY_GATED is true (40_control_path.md R83). -/
def execFclassD (rd rs1 : Reg) (s : State) : StepResult :=
  plainOp s.build.classifyGated (classifyBody .D rd rs1) s

end Sys2Proof.Machine
end

