-- ==== Sys2Proof/Machine/Convert.lean ====
section
/-! DEFINITION. Conversions (45_convert.md). Every one is gated and invokes the Resolver. -/

namespace Sys2Proof.Machine

/-- f2i(fmt, a, T, dir): the integer and the flags (R168). -/
def floatToInt (fmt : Fmt) (t : IntType) (a : Pattern fmt) (dir : Directive) : Raised Int :=
  let r := roundToInt fmt a dir
  if isNaN fmt a then ⟨t.max, flagNV⟩
  else if isInf fmt a then ⟨if signOf fmt a then t.min else t.max, flagNV⟩
  else if r.1 < t.min then ⟨t.min, flagNV⟩
  else if t.max < r.1 then ⟨t.max, flagNV⟩
  else ⟨r.1, flagIf r.2 flagNX⟩

/-- The conversion with its result widened to XLEN bits (R169). -/
def f2i (cfg : Config) (fmt : Fmt) (t : IntType) (a : Pattern fmt) (dir : Directive) : Raised XWord :=
  let r := floatToInt fmt t a dir
  ⟨intResult cfg.xlen t r.result, r.raised⟩

/-- i2f(fmt, i, T, dir) (R178): the integer zero gives +0. -/
def i2f (cfg : Config) (fmt : Fmt) (t : IntType) (i : XWord) (dir : Directive) : Raised (FpResult fmt) :=
  let z := intOperand t i
  if z = 0 then exactResult (zero fmt false)
  else roundedResult cfg fmt (decide (z < 0)) (.ratio z.natAbs 1) dir

/-- FCVT.S.D's primitive: narrowing with one rounding (R187). -/
def narrow (cfg : Config) (a : Pattern .D) (dir : Directive) : Raised (FpResult .S) :=
  if isNaN .D a then nanResult .S (isSNaN cfg .D a)
  else if isInf .D a then exactResult (infinity .S (signOf .D a))
  else if isZero .D a then exactResult (zero .S (signOf .D a))
  else roundedResult cfg .S (signOf .D a) (magnitudeOf .D a) dir

/-- FCVT.D.S's primitive: exact, subnormals included (R188). A single's MINSUB is 2^(K_D - K_S) of a double's. -/
def widen (cfg : Config) (a : Pattern .S) : Raised (FpResult .D) :=
  if isNaN .S a then nanResult .D (isSNaN cfg .S a)
  else if isInf .S a then exactResult (infinity .D (signOf .S a))
  else if isZero .S a then exactResult (zero .D (signOf .S a))
  else exactResult (pack .D (signOf .S a) (units .S a * 2 ^ (minsubExp .D - minsubExp .S)))

/-- The body of the float-to-integer conversions. -/
def f2iBody (fmt : Fmt) (t : IntType) (rd rs1 : Reg) (dir : Directive) (s : State) : State :=
  finishInt rd (f2i s.build fmt t (readPort fmt rs1 s) dir) s

/-- The body of the integer-to-float conversions; the operand is x[rs1] (30_encoding.md R71). -/
def i2fBody (fmt : Fmt) (t : IntType) (rd rs1 : Reg) (dir : Directive) (s : State) : State :=
  finishFp fmt rd (i2f s.build fmt t (readX rs1 s) dir) s

/-- FCVT.W.S (R170). -/
def execFcvtWS (rd rs1 : Reg) (rm : RoundingCode) (s : State) : StepResult :=
  roundingOp rm (f2iBody .S .w rd rs1) s

/-- FCVT.WU.S (R171). -/
def execFcvtWuS (rd rs1 : Reg) (rm : RoundingCode) (s : State) : StepResult :=
  roundingOp rm (f2iBody .S .wu rd rs1) s

/-- FCVT.L.S (R172), XLEN = 64 only. -/
def execFcvtLS (rd rs1 : Reg) (rm : RoundingCode) (s : State) : StepResult :=
  onRv64 (roundingOp rm (f2iBody .S .l rd rs1)) s

/-- FCVT.LU.S (R173), XLEN = 64 only. -/
def execFcvtLuS (rd rs1 : Reg) (rm : RoundingCode) (s : State) : StepResult :=
  onRv64 (roundingOp rm (f2iBody .S .lu rd rs1)) s

/-- FCVT.W.D (R174). -/
def execFcvtWD (rd rs1 : Reg) (rm : RoundingCode) (s : State) : StepResult :=
  roundingOp rm (f2iBody .D .w rd rs1) s

/-- FCVT.WU.D (R175). -/
def execFcvtWuD (rd rs1 : Reg) (rm : RoundingCode) (s : State) : StepResult :=
  roundingOp rm (f2iBody .D .wu rd rs1) s

/-- FCVT.L.D (R176), XLEN = 64 only. -/
def execFcvtLD (rd rs1 : Reg) (rm : RoundingCode) (s : State) : StepResult :=
  onRv64 (roundingOp rm (f2iBody .D .l rd rs1)) s

/-- FCVT.LU.D (R177), XLEN = 64 only. -/
def execFcvtLuD (rd rs1 : Reg) (rm : RoundingCode) (s : State) : StepResult :=
  onRv64 (roundingOp rm (f2iBody .D .lu rd rs1)) s

/-- FCVT.S.W (R179). -/
def execFcvtSW (rd rs1 : Reg) (rm : RoundingCode) (s : State) : StepResult :=
  roundingOp rm (i2fBody .S .w rd rs1) s

/-- FCVT.S.WU (R180). -/
def execFcvtSWu (rd rs1 : Reg) (rm : RoundingCode) (s : State) : StepResult :=
  roundingOp rm (i2fBody .S .wu rd rs1) s

/-- FCVT.S.L (R181), XLEN = 64 only. -/
def execFcvtSL (rd rs1 : Reg) (rm : RoundingCode) (s : State) : StepResult :=
  onRv64 (roundingOp rm (i2fBody .S .l rd rs1)) s

/-- FCVT.S.LU (R182), XLEN = 64 only. -/
def execFcvtSLu (rd rs1 : Reg) (rm : RoundingCode) (s : State) : StepResult :=
  onRv64 (roundingOp rm (i2fBody .S .lu rd rs1)) s

/-- FCVT.D.W (R183). -/
def execFcvtDW (rd rs1 : Reg) (rm : RoundingCode) (s : State) : StepResult :=
  roundingOp rm (i2fBody .D .w rd rs1) s

/-- FCVT.D.WU (R184). -/
def execFcvtDWu (rd rs1 : Reg) (rm : RoundingCode) (s : State) : StepResult :=
  roundingOp rm (i2fBody .D .wu rd rs1) s

/-- FCVT.D.L (R185), XLEN = 64 only. -/
def execFcvtDL (rd rs1 : Reg) (rm : RoundingCode) (s : State) : StepResult :=
  onRv64 (roundingOp rm (i2fBody .D .l rd rs1)) s

/-- FCVT.D.LU (R186), XLEN = 64 only. -/
def execFcvtDLu (rd rs1 : Reg) (rm : RoundingCode) (s : State) : StepResult :=
  onRv64 (roundingOp rm (i2fBody .D .lu rd rs1)) s

/-- FCVT.S.D (R187). -/
def execFcvtSD (rd rs1 : Reg) (rm : RoundingCode) (s : State) : StepResult :=
  roundingOp rm (fun dir t => finishFp .S rd (narrow t.build (readPort .D rs1 t) dir) t) s

/-- FCVT.D.S (R188): the directive is resolved but unused (30_encoding.md R72). -/
def execFcvtDS (rd rs1 : Reg) (rm : RoundingCode) (s : State) : StepResult :=
  roundingOp rm (fun _ t => finishFp .D rd (widen t.build (readPort .S rs1 t)) t) s

end Sys2Proof.Machine
end

