-- ==== Sys2Proof/Machine/MinMaxCompare.lean ====
section
/-! DEFINITION. Minimum, maximum and comparisons (44_minmax_compare.md). None of them invokes the Resolver or writes lib_rm; all are
gated and run the Translator. -/

namespace Sys2Proof.Machine

/-- lt(x, y) of R155: the order of values, with -0 less than +0. -/
def minMaxLt (fmt : Fmt) (x y : Pattern fmt) : Bool :=
  if isZero fmt x && isZero fmt y then signOf fmt x && !signOf fmt y
  else (valueOf fmt x).lt (valueOf fmt y)

/-- minmax(fmt, a, b, is_min) (R155). -/
def minMax (cfg : Config) (fmt : Fmt) (isMin : Bool) (a b : Pattern fmt) : Raised (FpResult fmt) :=
  { result :=
      if isNaN fmt a && isNaN fmt b then .nan
      else if isNaN fmt a then .number b
      else if isNaN fmt b then .number a
      else if isMin then .number (if minMaxLt fmt b a then b else a)
      else .number (if minMaxLt fmt a b then b else a)
    raised := flagIf (isSNaN cfg fmt a || isSNaN cfg fmt b) flagNV }

/-- 1 or 0, zero-extended to XLEN (R160; 92 D18). -/
def boolResult (b : Bool) : XWord := if b then 1#64 else 0#64

/-- feq(fmt, a, b) (R160). -/
def feq (cfg : Config) (fmt : Fmt) (a b : Pattern fmt) : Raised XWord :=
  if isNaN fmt a || isNaN fmt b then ⟨boolResult false, flagIf (isSNaN cfg fmt a || isSNaN cfg fmt b) flagNV⟩
  else ⟨boolResult (decide (valueOf fmt a = valueOf fmt b)), noFlags⟩

/-- flt(fmt, a, b) (R160). -/
def flt (fmt : Fmt) (a b : Pattern fmt) : Raised XWord :=
  if isNaN fmt a || isNaN fmt b then ⟨boolResult false, flagNV⟩
  else ⟨boolResult ((valueOf fmt a).lt (valueOf fmt b)), noFlags⟩

/-- fle(fmt, a, b) (R160). -/
def fle (fmt : Fmt) (a b : Pattern fmt) : Raised XWord :=
  if isNaN fmt a || isNaN fmt b then ⟨boolResult false, flagNV⟩
  else ⟨boolResult ((valueOf fmt a).lt (valueOf fmt b) || decide (valueOf fmt a = valueOf fmt b)), noFlags⟩

/-- The body of FMIN and FMAX. -/
def minMaxBody (fmt : Fmt) (isMin : Bool) (rd rs1 rs2 : Reg) (s : State) : State :=
  finishFp fmt rd (minMax s.build fmt isMin (readPort fmt rs1 s) (readPort fmt rs2 s)) s

/-- The body of the comparisons. -/
def compareBody (fmt : Fmt) (prim : Config → Pattern fmt → Pattern fmt → Raised XWord) (rd rs1 rs2 : Reg) (s : State) : State :=
  finishInt rd (prim s.build (readPort fmt rs1 s) (readPort fmt rs2 s)) s

/-- FMIN.S (R156). -/
def execFminS (rd rs1 rs2 : Reg) (s : State) : StepResult :=
  plainOp true (minMaxBody .S true rd rs1 rs2) s

/-- FMAX.S (R157). -/
def execFmaxS (rd rs1 rs2 : Reg) (s : State) : StepResult :=
  plainOp true (minMaxBody .S false rd rs1 rs2) s

/-- FMIN.D (R158). -/
def execFminD (rd rs1 rs2 : Reg) (s : State) : StepResult :=
  plainOp true (minMaxBody .D true rd rs1 rs2) s

/-- FMAX.D (R159). -/
def execFmaxD (rd rs1 rs2 : Reg) (s : State) : StepResult :=
  plainOp true (minMaxBody .D false rd rs1 rs2) s

/-- FEQ.S (R161). -/
def execFeqS (rd rs1 rs2 : Reg) (s : State) : StepResult :=
  plainOp true (compareBody .S (fun c a b => feq c .S a b) rd rs1 rs2) s

/-- FLT.S (R162). -/
def execFltS (rd rs1 rs2 : Reg) (s : State) : StepResult :=
  plainOp true (compareBody .S (fun _ a b => flt .S a b) rd rs1 rs2) s

/-- FLE.S (R163). -/
def execFleS (rd rs1 rs2 : Reg) (s : State) : StepResult :=
  plainOp true (compareBody .S (fun _ a b => fle .S a b) rd rs1 rs2) s

/-- FEQ.D (R164). -/
def execFeqD (rd rs1 rs2 : Reg) (s : State) : StepResult :=
  plainOp true (compareBody .D (fun c a b => feq c .D a b) rd rs1 rs2) s

/-- FLT.D (R165). -/
def execFltD (rd rs1 rs2 : Reg) (s : State) : StepResult :=
  plainOp true (compareBody .D (fun _ a b => flt .D a b) rd rs1 rs2) s

/-- FLE.D (R166). -/
def execFleD (rd rs1 rs2 : Reg) (s : State) : StepResult :=
  plainOp true (compareBody .D (fun _ a b => fle .D a b) rd rs1 rs2) s

end Sys2Proof.Machine
end

