-- ==== Sys2Proof/Machine/HostOps.lean ====
section
/-! DEFINITION. What the host does to the state between operations (70_reset_and_hazards.md R210, R215, R223; 10_state.md R27, R28). -/

namespace Sys2Proof.Machine

/-- The value a CSR read gives: fflags, frm, or fcsr with fcsr[4:0] = fflags, fcsr[7:5] = frm and the rest zero (10_state.md R28). -/
def csrValue (csr : Csr) (s : State) : BitVec 32 :=
  match csr with
  | .fflags => s.fflags.zeroExtend 32
  | .frm => s.frm.zeroExtend 32
  | .fcsr => 0#24 ++ s.frm ++ s.fflags

/-- The CSR number of each view (10_state.md R28). -/
def Csr.number : Csr → BitVec 12
  | .fflags => 0x001#12
  | .frm => 0x002#12
  | .fcsr => 0x003#12

/-- frm ← v. -/
def writeFrm (v : BitVec 3) (s : State) : State := { s with frm := v }

/-- fflags ← v: the only way a bit of fflags is cleared (40_control_path.md R92). -/
def writeFflags (v : FlagSet) (s : State) : State := { s with fflags := v }

/-- fp_enabled ← on. -/
def setFpEnabled (on : Bool) (s : State) : State := { s with fpEnabled := on }

/-- fp_enabled = (mstatus.FS ≠ 0), FS in bits 14:13 of mstatus (10_state.md R27). -/
def fpEnabledOfMstatus (v : BitVec 64) : Bool := decide (v.extractLsb' 13 2 ≠ 0#2)

/-- The CPU's reset gives the block its reset values (70_reset_and_hazards.md R210). The register files, the pending interactions
and the record of outcomes are not the block's and stay (DESIGN CHOICE, log entry 14). -/
def resetBlock (s : State) : State :=
  { s with frm := 0#3, fflags := 0#5, fpEnabled := s.build.resetFpEnabled, libFlags := 0#5, libRm := .rne }

/-- The effect of a host interaction that presents no request (70_reset_and_hazards.md R223). A presented request is run by `step`. -/
def hostWrite (a : HostAction) (s : State) : State :=
  match a with
  | .present _ => s
  | .writeFrm v => writeFrm v s
  | .writeFflags v => writeFflags v s
  | .writeFcsr v => writeFrm (v.extractLsb' 5 3) (writeFflags (v.extractLsb' 0 5) s)
  | .setFpEnabled on => setFpEnabled on s
  | .writeMstatus v => setFpEnabled (fpEnabledOfMstatus v) s
  | .readCsr csr rd => writeX rd ((csrValue csr s).zeroExtend 64) s
  | .loadF r v => writeF r v s
  | .loadX r v => writeX r v s
  | .reset => resetBlock s

/-- The interaction is taken off the queue. -/
def dropInput (s : State) : State := { s with inputs := s.inputs.drop 1 }

end Sys2Proof.Machine
end

