-- ==== Sys2Proof/WellFormed.lean ====
section
/-! DEFINITION. When an instruction is an operation of the block. The field types already bound every register number and rounding
code (30_encoding.md R64, R66), and codes 5 and 6 are operations that trap, not ill-formed ones (R69). What is left to check is
XLEN: the L and LU conversions exist only when XLEN = 64 (00_scope.md R11; 30_encoding.md R70). -/

namespace Sys2Proof

/-- The instruction is one of the L and LU conversions, the rows marked RV64 only of 30_encoding.md R67. -/
def Instr.needsRv64 : Instr → Bool
  | .fmaddS _ _ _ _ _ => false
  | .fmsubS _ _ _ _ _ => false
  | .fnmsubS _ _ _ _ _ => false
  | .fnmaddS _ _ _ _ _ => false
  | .fmaddD _ _ _ _ _ => false
  | .fmsubD _ _ _ _ _ => false
  | .fnmsubD _ _ _ _ _ => false
  | .fnmaddD _ _ _ _ _ => false
  | .faddS _ _ _ _ => false
  | .fsubS _ _ _ _ => false
  | .fmulS _ _ _ _ => false
  | .fdivS _ _ _ _ => false
  | .fsqrtS _ _ _ => false
  | .fminS _ _ _ => false
  | .fmaxS _ _ _ => false
  | .fleS _ _ _ => false
  | .fltS _ _ _ => false
  | .feqS _ _ _ => false
  | .fcvtWS _ _ _ => false
  | .fcvtWuS _ _ _ => false
  | .fcvtLS _ _ _ => true
  | .fcvtLuS _ _ _ => true
  | .fcvtSW _ _ _ => false
  | .fcvtSWu _ _ _ => false
  | .fcvtSL _ _ _ => true
  | .fcvtSLu _ _ _ => true
  | .fclassS _ _ => false
  | .faddD _ _ _ _ => false
  | .fsubD _ _ _ _ => false
  | .fmulD _ _ _ _ => false
  | .fdivD _ _ _ _ => false
  | .fsqrtD _ _ _ => false
  | .fminD _ _ _ => false
  | .fmaxD _ _ _ => false
  | .fleD _ _ _ => false
  | .fltD _ _ _ => false
  | .feqD _ _ _ => false
  | .fcvtWD _ _ _ => false
  | .fcvtWuD _ _ _ => false
  | .fcvtLD _ _ _ => true
  | .fcvtLuD _ _ _ => true
  | .fcvtDW _ _ _ => false
  | .fcvtDWu _ _ _ => false
  | .fcvtDL _ _ _ => true
  | .fcvtDLu _ _ _ => true
  | .fclassD _ _ => false
  | .fcvtSD _ _ _ => false
  | .fcvtDS _ _ _ => false

/-- The operation exists in a build of width `xlen` (00_scope.md R11). -/
def Instr.wf (xlen : Xlen) (i : Instr) : Bool :=
  !i.needsRv64 || decide (xlen = .rv64)

end Sys2Proof
end

