-- ==== Sys2Proof/Decode.lean ====
section
/-! DEFINITION. The decoder in front of the block (30_encoding.md R71), total on every 32-bit word, the encoder written from the
same encodings (R61, R62), and the opcode table of R67 as data. The block has no memory and no byte order (20_memory.md R50, R51):
a word comes as one 32-bit value (log entry 21). -/

namespace Sys2Proof

/-! ## Fields (30_encoding.md R61, R62) -/

/-- Bits 6:0, the major opcode. -/
def opcodeField (w : InstrWord) : BitVec 7 := w.extractLsb' 0 7
/-- Bits 11:7, the destination register. -/
def rdField (w : InstrWord) : Reg := w.extractLsb' 7 5
/-- Bits 14:12, the rounding code or function select. -/
def rmField (w : InstrWord) : RoundingCode := w.extractLsb' 12 3
/-- Bits 19:15, the first source register. -/
def rs1Field (w : InstrWord) : Reg := w.extractLsb' 15 5
/-- Bits 24:20, the second source register or a sub-function code. -/
def rs2Field (w : InstrWord) : Reg := w.extractLsb' 20 5
/-- Bits 31:25, operation and format of the R format. -/
def funct7Field (w : InstrWord) : BitVec 7 := w.extractLsb' 25 7
/-- Bits 26:25, the format of the R4 format. -/
def fmtField (w : InstrWord) : BitVec 2 := w.extractLsb' 25 2
/-- Bits 31:27, the third source register of the R4 format. -/
def rs3Field (w : InstrWord) : Reg := w.extractLsb' 27 5
/-- Bits 31:20 of a SYSTEM word, the CSR number. PRESUMED (the RISC-V CSR format), log entry 10. -/
def csrField (w : InstrWord) : BitVec 12 := w.extractLsb' 20 12

/-! ## Decoding -/

/-- The units of the surrounding CPU that 30_encoding.md R68 names. -/
inductive CpuUnit where
  /-- FLW, FLD. -/
  | load
  /-- FSW, FSD. -/
  | store
  /-- FSGNJ, FSGNJN, FSGNJX and the FMV moves. -/
  | registerFile
  /-- The CSR instructions on CSR 0x001 to 0x003. -/
  | csr
  deriving DecidableEq, Repr

/-- What the decoder makes of a word. -/
inductive Decoded where
  /-- An operation of the block (R67, R71). -/
  | op (i : Instr)
  /-- An F/D instruction outside the block, sent to another unit of the CPU (R68). -/
  | elsewhere (unit : CpuUnit)
  /-- A word under OP-FP or a fused opcode that matches no row: the decoder raises IllegalInstruction (R69). -/
  | illegal
  /-- Any other word: an instruction of the surrounding CPU (00_scope.md R7). -/
  | foreign
  deriving DecidableEq, Repr

/-- A row that exists only when XLEN = 64 is illegal when XLEN = 32 (R69; 00_scope.md R11). -/
def whenRv64 (xlen : Xlen) (d : Decoded) : Decoded :=
  if xlen = .rv64 then d else .illegal

/-- The R4 format: `fmt` 0b00 is S and 0b01 is D (R62, R63); 0b10 and 0b11 name no operation (R69). -/
def decodeFused (single double : Reg → Reg → Reg → Reg → RoundingCode → Instr) (w : InstrWord) : Decoded :=
  if fmtField w = 0b00#2 then .op (single (rdField w) (rs1Field w) (rs2Field w) (rs3Field w) (rmField w))
  else if fmtField w = 0b01#2 then .op (double (rdField w) (rs1Field w) (rs2Field w) (rs3Field w) (rmField w))
  else .illegal

/-- FMIN and FMAX: funct3 selects the function (R67, R71). -/
def decodeMinMax (min max : Reg → Reg → Reg → Instr) (w : InstrWord) : Decoded :=
  if rmField w = 0b000#3 then .op (min (rdField w) (rs1Field w) (rs2Field w))
  else if rmField w = 0b001#3 then .op (max (rdField w) (rs1Field w) (rs2Field w))
  else .illegal

/-- FLE, FLT and FEQ: funct3 selects the function (R67, R71). -/
def decodeCompare (le lt eq : Reg → Reg → Reg → Instr) (w : InstrWord) : Decoded :=
  if rmField w = 0b000#3 then .op (le (rdField w) (rs1Field w) (rs2Field w))
  else if rmField w = 0b001#3 then .op (lt (rdField w) (rs1Field w) (rs2Field w))
  else if rmField w = 0b010#3 then .op (eq (rdField w) (rs1Field w) (rs2Field w))
  else .illegal

/-- The integer conversions: rs2 is the sub-function code W, WU, L, LU (R67). -/
def decodeConvert (xlen : Xlen) (cw cwu cl clu : Reg → Reg → RoundingCode → Instr) (w : InstrWord) : Decoded :=
  if rs2Field w = 0#5 then .op (cw (rdField w) (rs1Field w) (rmField w))
  else if rs2Field w = 1#5 then .op (cwu (rdField w) (rs1Field w) (rmField w))
  else if rs2Field w = 2#5 then whenRv64 xlen (.op (cl (rdField w) (rs1Field w) (rmField w)))
  else if rs2Field w = 3#5 then whenRv64 xlen (.op (clu (rdField w) (rs1Field w) (rmField w)))
  else .illegal

/-- An operation with one source register and a fixed rs2 code (R65). -/
def decodeUnary (code : Reg) (f : Reg → Reg → RoundingCode → Instr) (w : InstrWord) : Decoded :=
  if rs2Field w = code then .op (f (rdField w) (rs1Field w) (rmField w)) else .illegal

/-- FCLASS (funct3 = 0b001) and the FMV to an integer register (funct3 = 0b000, R68), both with rs2 = 0. -/
def decodeClassify (fclass : Reg → Reg → Instr) (move : Decoded) (w : InstrWord) : Decoded :=
  if rs2Field w = 0#5 then
    if rmField w = 0b001#3 then .op (fclass (rdField w) (rs1Field w))
    else if rmField w = 0b000#3 then move
    else .illegal
  else .illegal

/-- FSGNJ, FSGNJN and FSGNJX go to the CPU's register file (R68). -/
def decodeSignInject (w : InstrWord) : Decoded :=
  if rmField w = 0b000#3 ∨ rmField w = 0b001#3 ∨ rmField w = 0b010#3 then .elsewhere .registerFile else .illegal

/-- The FMV from an integer register goes to the CPU's register file (R68). -/
def decodeMoveToFp (w : InstrWord) : Decoded :=
  if rs2Field w = 0#5 ∧ rmField w = 0b000#3 then .elsewhere .registerFile else .illegal

/-- Major opcode OP-FP (R61, R67, R68): funct7 names the operation and format, and any other value is illegal (R69). -/
def decodeOpFp (xlen : Xlen) (w : InstrWord) : Decoded :=
  let f7 := funct7Field w
  if f7 = 0b0000000#7 then .op (.faddS (rdField w) (rs1Field w) (rs2Field w) (rmField w))
  else if f7 = 0b0000001#7 then .op (.faddD (rdField w) (rs1Field w) (rs2Field w) (rmField w))
  else if f7 = 0b0000100#7 then .op (.fsubS (rdField w) (rs1Field w) (rs2Field w) (rmField w))
  else if f7 = 0b0000101#7 then .op (.fsubD (rdField w) (rs1Field w) (rs2Field w) (rmField w))
  else if f7 = 0b0001000#7 then .op (.fmulS (rdField w) (rs1Field w) (rs2Field w) (rmField w))
  else if f7 = 0b0001001#7 then .op (.fmulD (rdField w) (rs1Field w) (rs2Field w) (rmField w))
  else if f7 = 0b0001100#7 then .op (.fdivS (rdField w) (rs1Field w) (rs2Field w) (rmField w))
  else if f7 = 0b0001101#7 then .op (.fdivD (rdField w) (rs1Field w) (rs2Field w) (rmField w))
  else if f7 = 0b0101100#7 then decodeUnary 0#5 .fsqrtS w
  else if f7 = 0b0101101#7 then decodeUnary 0#5 .fsqrtD w
  else if f7 = 0b0010100#7 then decodeMinMax .fminS .fmaxS w
  else if f7 = 0b0010101#7 then decodeMinMax .fminD .fmaxD w
  else if f7 = 0b1010000#7 then decodeCompare .fleS .fltS .feqS w
  else if f7 = 0b1010001#7 then decodeCompare .fleD .fltD .feqD w
  else if f7 = 0b1100000#7 then decodeConvert xlen .fcvtWS .fcvtWuS .fcvtLS .fcvtLuS w
  else if f7 = 0b1100001#7 then decodeConvert xlen .fcvtWD .fcvtWuD .fcvtLD .fcvtLuD w
  else if f7 = 0b1101000#7 then decodeConvert xlen .fcvtSW .fcvtSWu .fcvtSL .fcvtSLu w
  else if f7 = 0b1101001#7 then decodeConvert xlen .fcvtDW .fcvtDWu .fcvtDL .fcvtDLu w
  else if f7 = 0b0100000#7 then decodeUnary 1#5 .fcvtSD w
  else if f7 = 0b0100001#7 then decodeUnary 0#5 .fcvtDS w
  else if f7 = 0b1110000#7 then decodeClassify .fclassS (.elsewhere .registerFile) w
  else if f7 = 0b1110001#7 then decodeClassify .fclassD (whenRv64 xlen (.elsewhere .registerFile)) w
  else if f7 = 0b0010000#7 then decodeSignInject w
  else if f7 = 0b0010001#7 then decodeSignInject w
  else if f7 = 0b1111000#7 then decodeMoveToFp w
  else if f7 = 0b1111001#7 then whenRv64 xlen (decodeMoveToFp w)
  else .illegal

/-- LOAD-FP and STORE-FP: FLW and FSW (funct3 = 0b010), FLD and FSD (funct3 = 0b011) (R68). -/
def decodeMemory (unit : CpuUnit) (w : InstrWord) : Decoded :=
  if rmField w = 0b010#3 ∨ rmField w = 0b011#3 then .elsewhere unit else .foreign

/-- SYSTEM: a CSR instruction on CSR 0x001 to 0x003 (R68). PRESUMED (the RISC-V CSR format), log entry 10. -/
def decodeSystem (w : InstrWord) : Decoded :=
  if rmField w ≠ 0b000#3 ∧ rmField w ≠ 0b100#3 ∧ (csrField w = 1#12 ∨ csrField w = 2#12 ∨ csrField w = 3#12)
  then .elsewhere .csr else .foreign

/-- The decoder of R71 with the routing of R68 and R69. -/
def decode (xlen : Xlen) (w : InstrWord) : Decoded :=
  let op := opcodeField w
  if op = 0b1000011#7 then decodeFused .fmaddS .fmaddD w
  else if op = 0b1000111#7 then decodeFused .fmsubS .fmsubD w
  else if op = 0b1001011#7 then decodeFused .fnmsubS .fnmsubD w
  else if op = 0b1001111#7 then decodeFused .fnmaddS .fnmaddD w
  else if op = 0b1010011#7 then decodeOpFp xlen w
  else if op = 0b0000111#7 then decodeMemory .load w
  else if op = 0b0100111#7 then decodeMemory .store w
  else if op = 0b1110011#7 then decodeSystem w
  else .foreign

/-! ## Encoding -/

/-- A word of the R format with major opcode OP-FP (R61). -/
def encodeR (funct7 : BitVec 7) (rs2 rs1 : Reg) (funct3 : RoundingCode) (rd : Reg) : InstrWord :=
  funct7 ++ rs2 ++ rs1 ++ funct3 ++ rd ++ 0b1010011#7

/-- A word of the R4 format (R62). -/
def encodeR4 (opcode : BitVec 7) (fmt : BitVec 2) (rs3 rs2 rs1 : Reg) (rm : RoundingCode) (rd : Reg) : InstrWord :=
  rs3 ++ fmt ++ rs2 ++ rs1 ++ rm ++ rd ++ opcode

/-- The word of an instruction, from the pattern column of R67. -/
def encode : Instr → InstrWord
  | .fmaddS rd rs1 rs2 rs3 rm => encodeR4 0b1000011#7 0b00#2 rs3 rs2 rs1 rm rd
  | .fmsubS rd rs1 rs2 rs3 rm => encodeR4 0b1000111#7 0b00#2 rs3 rs2 rs1 rm rd
  | .fnmsubS rd rs1 rs2 rs3 rm => encodeR4 0b1001011#7 0b00#2 rs3 rs2 rs1 rm rd
  | .fnmaddS rd rs1 rs2 rs3 rm => encodeR4 0b1001111#7 0b00#2 rs3 rs2 rs1 rm rd
  | .fmaddD rd rs1 rs2 rs3 rm => encodeR4 0b1000011#7 0b01#2 rs3 rs2 rs1 rm rd
  | .fmsubD rd rs1 rs2 rs3 rm => encodeR4 0b1000111#7 0b01#2 rs3 rs2 rs1 rm rd
  | .fnmsubD rd rs1 rs2 rs3 rm => encodeR4 0b1001011#7 0b01#2 rs3 rs2 rs1 rm rd
  | .fnmaddD rd rs1 rs2 rs3 rm => encodeR4 0b1001111#7 0b01#2 rs3 rs2 rs1 rm rd
  | .faddS rd rs1 rs2 rm => encodeR 0b0000000#7 rs2 rs1 rm rd
  | .fsubS rd rs1 rs2 rm => encodeR 0b0000100#7 rs2 rs1 rm rd
  | .fmulS rd rs1 rs2 rm => encodeR 0b0001000#7 rs2 rs1 rm rd
  | .fdivS rd rs1 rs2 rm => encodeR 0b0001100#7 rs2 rs1 rm rd
  | .fsqrtS rd rs1 rm => encodeR 0b0101100#7 0#5 rs1 rm rd
  | .fminS rd rs1 rs2 => encodeR 0b0010100#7 rs2 rs1 0b000#3 rd
  | .fmaxS rd rs1 rs2 => encodeR 0b0010100#7 rs2 rs1 0b001#3 rd
  | .fleS rd rs1 rs2 => encodeR 0b1010000#7 rs2 rs1 0b000#3 rd
  | .fltS rd rs1 rs2 => encodeR 0b1010000#7 rs2 rs1 0b001#3 rd
  | .feqS rd rs1 rs2 => encodeR 0b1010000#7 rs2 rs1 0b010#3 rd
  | .fcvtWS rd rs1 rm => encodeR 0b1100000#7 0#5 rs1 rm rd
  | .fcvtWuS rd rs1 rm => encodeR 0b1100000#7 1#5 rs1 rm rd
  | .fcvtLS rd rs1 rm => encodeR 0b1100000#7 2#5 rs1 rm rd
  | .fcvtLuS rd rs1 rm => encodeR 0b1100000#7 3#5 rs1 rm rd
  | .fcvtSW rd rs1 rm => encodeR 0b1101000#7 0#5 rs1 rm rd
  | .fcvtSWu rd rs1 rm => encodeR 0b1101000#7 1#5 rs1 rm rd
  | .fcvtSL rd rs1 rm => encodeR 0b1101000#7 2#5 rs1 rm rd
  | .fcvtSLu rd rs1 rm => encodeR 0b1101000#7 3#5 rs1 rm rd
  | .fclassS rd rs1 => encodeR 0b1110000#7 0#5 rs1 0b001#3 rd
  | .faddD rd rs1 rs2 rm => encodeR 0b0000001#7 rs2 rs1 rm rd
  | .fsubD rd rs1 rs2 rm => encodeR 0b0000101#7 rs2 rs1 rm rd
  | .fmulD rd rs1 rs2 rm => encodeR 0b0001001#7 rs2 rs1 rm rd
  | .fdivD rd rs1 rs2 rm => encodeR 0b0001101#7 rs2 rs1 rm rd
  | .fsqrtD rd rs1 rm => encodeR 0b0101101#7 0#5 rs1 rm rd
  | .fminD rd rs1 rs2 => encodeR 0b0010101#7 rs2 rs1 0b000#3 rd
  | .fmaxD rd rs1 rs2 => encodeR 0b0010101#7 rs2 rs1 0b001#3 rd
  | .fleD rd rs1 rs2 => encodeR 0b1010001#7 rs2 rs1 0b000#3 rd
  | .fltD rd rs1 rs2 => encodeR 0b1010001#7 rs2 rs1 0b001#3 rd
  | .feqD rd rs1 rs2 => encodeR 0b1010001#7 rs2 rs1 0b010#3 rd
  | .fcvtWD rd rs1 rm => encodeR 0b1100001#7 0#5 rs1 rm rd
  | .fcvtWuD rd rs1 rm => encodeR 0b1100001#7 1#5 rs1 rm rd
  | .fcvtLD rd rs1 rm => encodeR 0b1100001#7 2#5 rs1 rm rd
  | .fcvtLuD rd rs1 rm => encodeR 0b1100001#7 3#5 rs1 rm rd
  | .fcvtDW rd rs1 rm => encodeR 0b1101001#7 0#5 rs1 rm rd
  | .fcvtDWu rd rs1 rm => encodeR 0b1101001#7 1#5 rs1 rm rd
  | .fcvtDL rd rs1 rm => encodeR 0b1101001#7 2#5 rs1 rm rd
  | .fcvtDLu rd rs1 rm => encodeR 0b1101001#7 3#5 rs1 rm rd
  | .fclassD rd rs1 => encodeR 0b1110001#7 0#5 rs1 0b001#3 rd
  | .fcvtSD rd rs1 rm => encodeR 0b0100000#7 1#5 rs1 rm rd
  | .fcvtDS rd rs1 rm => encodeR 0b0100001#7 0#5 rs1 rm rd

/-! ## The opcode table (30_encoding.md R67) -/

/-- A row of R67: a word w encodes the row's instruction iff (w & mask) = match. -/
structure OpcodeRow where
  mnemonic : String
  pattern : InstrWord
  mask : InstrWord
  rv64Only : Bool
  deriving DecidableEq, Repr

def opcodeTableFused : List OpcodeRow := [
  ⟨"FMADD.S", 0x00000043#32, 0x0600007F#32, false⟩,
  ⟨"FMSUB.S", 0x00000047#32, 0x0600007F#32, false⟩,
  ⟨"FNMSUB.S", 0x0000004B#32, 0x0600007F#32, false⟩,
  ⟨"FNMADD.S", 0x0000004F#32, 0x0600007F#32, false⟩,
  ⟨"FMADD.D", 0x02000043#32, 0x0600007F#32, false⟩,
  ⟨"FMSUB.D", 0x02000047#32, 0x0600007F#32, false⟩,
  ⟨"FNMSUB.D", 0x0200004B#32, 0x0600007F#32, false⟩,
  ⟨"FNMADD.D", 0x0200004F#32, 0x0600007F#32, false⟩]

def opcodeTableArithMinMaxCompare : List OpcodeRow := [
  ⟨"FADD.S", 0x00000053#32, 0xFE00007F#32, false⟩,
  ⟨"FSUB.S", 0x08000053#32, 0xFE00007F#32, false⟩,
  ⟨"FMUL.S", 0x10000053#32, 0xFE00007F#32, false⟩,
  ⟨"FDIV.S", 0x18000053#32, 0xFE00007F#32, false⟩,
  ⟨"FSQRT.S", 0x58000053#32, 0xFFF0007F#32, false⟩,
  ⟨"FMIN.S", 0x28000053#32, 0xFE00707F#32, false⟩,
  ⟨"FMAX.S", 0x28001053#32, 0xFE00707F#32, false⟩,
  ⟨"FLE.S", 0xA0000053#32, 0xFE00707F#32, false⟩,
  ⟨"FLT.S", 0xA0001053#32, 0xFE00707F#32, false⟩,
  ⟨"FEQ.S", 0xA0002053#32, 0xFE00707F#32, false⟩,
  ⟨"FADD.D", 0x02000053#32, 0xFE00007F#32, false⟩,
  ⟨"FSUB.D", 0x0A000053#32, 0xFE00007F#32, false⟩,
  ⟨"FMUL.D", 0x12000053#32, 0xFE00007F#32, false⟩,
  ⟨"FDIV.D", 0x1A000053#32, 0xFE00007F#32, false⟩,
  ⟨"FSQRT.D", 0x5A000053#32, 0xFFF0007F#32, false⟩,
  ⟨"FMIN.D", 0x2A000053#32, 0xFE00707F#32, false⟩,
  ⟨"FMAX.D", 0x2A001053#32, 0xFE00707F#32, false⟩,
  ⟨"FLE.D", 0xA2000053#32, 0xFE00707F#32, false⟩,
  ⟨"FLT.D", 0xA2001053#32, 0xFE00707F#32, false⟩,
  ⟨"FEQ.D", 0xA2002053#32, 0xFE00707F#32, false⟩]

def opcodeTableConvert : List OpcodeRow := [
  ⟨"FCVT.W.S", 0xC0000053#32, 0xFFF0007F#32, false⟩,
  ⟨"FCVT.WU.S", 0xC0100053#32, 0xFFF0007F#32, false⟩,
  ⟨"FCVT.L.S", 0xC0200053#32, 0xFFF0007F#32, true⟩,
  ⟨"FCVT.LU.S", 0xC0300053#32, 0xFFF0007F#32, true⟩,
  ⟨"FCVT.S.W", 0xD0000053#32, 0xFFF0007F#32, false⟩,
  ⟨"FCVT.S.WU", 0xD0100053#32, 0xFFF0007F#32, false⟩,
  ⟨"FCVT.S.L", 0xD0200053#32, 0xFFF0007F#32, true⟩,
  ⟨"FCVT.S.LU", 0xD0300053#32, 0xFFF0007F#32, true⟩,
  ⟨"FCVT.W.D", 0xC2000053#32, 0xFFF0007F#32, false⟩,
  ⟨"FCVT.WU.D", 0xC2100053#32, 0xFFF0007F#32, false⟩,
  ⟨"FCVT.L.D", 0xC2200053#32, 0xFFF0007F#32, true⟩,
  ⟨"FCVT.LU.D", 0xC2300053#32, 0xFFF0007F#32, true⟩,
  ⟨"FCVT.D.W", 0xD2000053#32, 0xFFF0007F#32, false⟩,
  ⟨"FCVT.D.WU", 0xD2100053#32, 0xFFF0007F#32, false⟩,
  ⟨"FCVT.D.L", 0xD2200053#32, 0xFFF0007F#32, true⟩,
  ⟨"FCVT.D.LU", 0xD2300053#32, 0xFFF0007F#32, true⟩,
  ⟨"FCVT.S.D", 0x40100053#32, 0xFFF0007F#32, false⟩,
  ⟨"FCVT.D.S", 0x42000053#32, 0xFFF0007F#32, false⟩]

def opcodeTableClassify : List OpcodeRow := [
  ⟨"FCLASS.S", 0xE0001053#32, 0xFFF0707F#32, false⟩,
  ⟨"FCLASS.D", 0xE2001053#32, 0xFFF0707F#32, false⟩]

/-- The 48 rows of R67, family by family. -/
def opcodeTable : List OpcodeRow :=
  opcodeTableFused ++ opcodeTableArithMinMaxCompare ++ opcodeTableConvert ++ opcodeTableClassify

/-- The word w encodes the row's instruction (R67). -/
def OpcodeRow.matches (r : OpcodeRow) (w : InstrWord) : Bool :=
  w &&& r.mask == r.pattern

/-! ## The instructions outside the block (30_encoding.md R68) -/

/-- A row of R68 that has a match and a mask, with the unit it goes to. -/
structure ElsewhereRow where
  mnemonic : String
  pattern : InstrWord
  mask : InstrWord
  rv64Only : Bool
  unit : CpuUnit
  deriving DecidableEq, Repr

/-- The rows of R68, but for the CSR instructions, which it gives an opcode only. -/
def elsewhereTable : List ElsewhereRow := [
  ⟨"FLW", 0x00002007#32, 0x0000707F#32, false, .load⟩,
  ⟨"FLD", 0x00003007#32, 0x0000707F#32, false, .load⟩,
  ⟨"FSW", 0x00002027#32, 0x0000707F#32, false, .store⟩,
  ⟨"FSD", 0x00003027#32, 0x0000707F#32, false, .store⟩,
  ⟨"FSGNJ.S", 0x20000053#32, 0xFE00707F#32, false, .registerFile⟩,
  ⟨"FSGNJN.S", 0x20001053#32, 0xFE00707F#32, false, .registerFile⟩,
  ⟨"FSGNJX.S", 0x20002053#32, 0xFE00707F#32, false, .registerFile⟩,
  ⟨"FSGNJ.D", 0x22000053#32, 0xFE00707F#32, false, .registerFile⟩,
  ⟨"FSGNJN.D", 0x22001053#32, 0xFE00707F#32, false, .registerFile⟩,
  ⟨"FSGNJX.D", 0x22002053#32, 0xFE00707F#32, false, .registerFile⟩,
  ⟨"FMV.X.W", 0xE0000053#32, 0xFFF0707F#32, false, .registerFile⟩,
  ⟨"FMV.W.X", 0xF0000053#32, 0xFFF0707F#32, false, .registerFile⟩,
  ⟨"FMV.X.D", 0xE2000053#32, 0xFFF0707F#32, true, .registerFile⟩,
  ⟨"FMV.D.X", 0xF2000053#32, 0xFFF0707F#32, true, .registerFile⟩]

/-- The word w encodes the row's instruction (R68). -/
def ElsewhereRow.matches (r : ElsewhereRow) (w : InstrWord) : Bool :=
  w &&& r.mask == r.pattern

/-! ## The host's view of the decoder -/

/-- The instruction the decoder reads from the word whose bits are `w`, `nbits` of them given and every higher bit 0. The width
XLEN = 64 is the one State.reset takes, in which all 48 rows exist (log entries 3 and 20). -/
def decodeTableWord (nbits w : Nat) : Option Instr :=
  match decode .rv64 (BitVec.ofNat 32 (w % 2 ^ nbits)) with
  | .op i => some i
  | .elsewhere _ => none
  | .illegal => none
  | .foreign => none

end Sys2Proof
end

