-- ==== Sys2Proof/Machine/Present.lean ====
section
/-! DEFINITION. A presented word: the CPU's decoder in front of the block (30_encoding.md R69, R71). -/

namespace Sys2Proof.Machine

/-- A presented word goes through the decoder (30_encoding.md R71): a request of the block runs, an illegal word traps in the decoder
(R69; log entry 9), and a word of another unit is no business of the block (R68; log entry 10). -/
def presentWord (w : InstrWord) (s : State) : StepResult :=
  match decode s.build.xlen w with
  | .op i => exec i s
  | .elsewhere _ => .refused .otherUnit
  | .illegal => .next (takeTrap s)
  | .foreign => .refused .foreignWord

/-- The instruction's bits, `nbits` of them given and every higher bit 0, as the 32-bit word the CPU presents. -/
def wordOfBits (nbits w : Nat) : InstrWord := BitVec.ofNat 32 (w % 2 ^ nbits)

end Sys2Proof.Machine
end

