-- ==== Sys2Proof/Machine/Step.lean ====
section
/-! DEFINITION. One step: the oldest pending host interaction is taken and carried out (70_reset_and_hazards.md R221, R223). -/

namespace Sys2Proof.Machine

/-- One step. With nothing pending nothing happens (log entry 6). -/
def step (s : State) : Host.Outcome State Fault Refusal :=
  match s.inputs with
  | [] => .next s
  | .present w :: _ => presentWord w (dropInput s)
  | a :: _ => .next (hostWrite a (dropInput s))

/-- The word whose bits are `w` is presented as the next host interaction, so that the next step decodes and runs it. -/
def State.withFetchWord (s : State) (nbits w : Nat) : State :=
  { s with inputs := .present (wordOfBits nbits w) :: s.inputs }

end Sys2Proof.Machine
end

