-- ==== Sys2Proof/Reference.lean ====
section
/-! DEFINITION. The spec's own pseudocode over the real numbers (00_scope.md R14: "Arithmetic on values in pseudocode ... is exact
arithmetic on real numbers, with no rounding"), for statements only: no step runs it. The machine computes the same with whole
numbers (Machine/Round.lean); that the two agree is stated, not assumed. -/

namespace Sys2Proof.Reference

open Machine

/-! ## Values (41_ieee_numerics.md R103, R117) -/

/-- (-1)^s. -/
noncomputable def signFactor (s : Bool) : ℝ := if s then -1 else 1

/-- val(fmt, v) of a finite pattern: a subnormal or zero is (-1)^s * f * 2^(emin - F), a normal (-1)^s * (2^F + f) * 2^(x - bias - F)
(R103). -/
noncomputable def value (fmt : Fmt) (v : Pattern fmt) : ℝ :=
  if expOf fmt v = 0 then signFactor (signOf fmt v) * fracOf fmt v * (2 : ℝ) ^ (emin fmt - fracBits fmt)
  else signFactor (signOf fmt v) * (2 ^ fracBits fmt + fracOf fmt v) * (2 : ℝ) ^ ((expOf fmt v : ℤ) - bias fmt - fracBits fmt)

/-- val(fmt, v) of a pattern that is no NaN, in the extended reals (R117). -/
noncomputable def extValue (fmt : Fmt) (v : Pattern fmt) : EReal :=
  if isInf fmt v then (if signOf fmt v then ⊥ else ⊤) else (value fmt v : EReal)

/-! ## Rounding (41_ieee_numerics.md R106 to R109, R116) -/

/-- rnd_int(n, dir, s) (R106). -/
noncomputable def rndInt (n : ℝ) (dir : Directive) (s : Bool) : ℤ :=
  let f := ⌊n⌋
  let r := n - ⌊n⌋
  match dir with
  | .rne => if r < 1 / 2 then f else if 1 / 2 < r then f + 1 else if f % 2 = 0 then f else f + 1
  | .rmm => if r < 1 / 2 then f else f + 1
  | .rtz => f
  | .rdn => if s = true ∧ 0 < r then f + 1 else f
  | .rup => if s = false ∧ 0 < r then f + 1 else f

/-- pack(fmt, s, y) of a representable magnitude y (R104). -/
noncomputable def pack (fmt : Fmt) (s : Bool) (y : ℝ) : Pattern fmt :=
  if y < (2 : ℝ) ^ emin fmt then ofFields fmt s 0 ⌊y / (2 : ℝ) ^ (emin fmt - fracBits fmt)⌋₊
  else
    let e := Int.log 2 y
    ofFields fmt s (e + bias fmt).toNat (⌊y / (2 : ℝ) ^ (e - fracBits fmt)⌋₊ - 2 ^ fracBits fmt)

/-- MAXF = (2^p - 1) * 2^(emax - F) (R104). -/
noncomputable def maxf (fmt : Fmt) : ℝ := (2 ^ precision fmt - 1) * (2 : ℝ) ^ (emax fmt - fracBits fmt)

/-- The rounded magnitude y = rnd_int(m / 2^q) * 2^q with q = max(floor(log2 m), emin) - F (R106). -/
noncomputable def rounded (fmt : Fmt) (s : Bool) (m : ℝ) (dir : Directive) : ℝ :=
  let q := max (Int.log 2 m) (emin fmt) - fracBits fmt
  rndInt (m / (2 : ℝ) ^ q) dir s * (2 : ℝ) ^ q

/-- tiny(fmt, x, dir) (R109). -/
noncomputable def tiny (t : Tininess) (fmt : Fmt) (s : Bool) (m : ℝ) (dir : Directive) : Bool :=
  match t with
  | .afterRounding =>
    let q := Int.log 2 m - fracBits fmt
    decide (rndInt (m / (2 : ℝ) ^ q) dir s * (2 : ℝ) ^ q < (2 : ℝ) ^ emin fmt)
  | .beforeRounding => decide (m < (2 : ℝ) ^ emin fmt)

/-- round(fmt, x, dir) of a nonzero real x of sign s and magnitude m, with its flags (R106 to R109). -/
noncomputable def roundMagnitude (t : Tininess) (fmt : Fmt) (s : Bool) (m : ℝ) (dir : Directive) : Raised (Pattern fmt) :=
  let y := rounded fmt s m dir
  if maxf fmt < y then ⟨overflowPattern fmt s dir, flagOF ||| flagNX⟩
  else ⟨pack fmt s y, flagIf (tiny t fmt s m dir && decide (y ≠ m)) flagUF ||| flagIf (decide (y ≠ m)) flagNX⟩

/-- round(fmt, x, dir) (R106). -/
noncomputable def round (t : Tininess) (fmt : Fmt) (x : ℝ) (dir : Directive) : Raised (Pattern fmt) :=
  roundMagnitude t fmt (decide (x < 0)) |x| dir

/-- rndint(x, dir) (R116). -/
noncomputable def rndint (x : ℝ) (dir : Directive) : ℤ :=
  if x < 0 then -rndInt |x| dir true else rndInt |x| dir false

/-! ## Primitives -/

/-- The NaN result with invalid raised or not (R112, R113). -/
def nan (fmt : Fmt) (invalid : Bool) : Raised (FpResult fmt) := ⟨.nan, if invalid then flagNV else 0#5⟩

/-- A pattern with no flag (R115). -/
def exact {fmt : Fmt} (v : Pattern fmt) : Raised (FpResult fmt) := ⟨.number v, 0#5⟩

/-- A rounded result with its flags. -/
noncomputable def roundedTo (t : Tininess) (fmt : Fmt) (x : ℝ) (dir : Directive) : Raised (FpResult fmt) :=
  ⟨.number (round t fmt x dir).result, (round t fmt x dir).raised⟩

/-- The sign of an exactly zero sum of terms of signs sx and sy (R110): equal signs (then both terms are zeros) keep the sign;
otherwise -0 under RDN and +0 under every other directive. -/
def zeroSum (fmt : Fmt) (sx sy : Bool) (dir : Directive) : Pattern fmt :=
  match sx, sy, dir with
  | true, true, _ => ofFields fmt true 0 0
  | false, false, _ => ofFields fmt false 0 0
  | _, _, .rdn => ofFields fmt true 0 0
  | _, _, _ => ofFields fmt false 0 0

/-- fma(fmt, a, b, c, dir) (42_fma.md R131). -/
noncomputable def fma (cfg : Config) (fmt : Fmt) (a b c : Pattern fmt) (dir : Directive) : Raised (FpResult fmt) :=
  let infzero := (isInf fmt a && isZero fmt b) || (isZero fmt a && isInf fmt b)
  let sp := signOf fmt a != signOf fmt b
  let x := value fmt a * value fmt b + value fmt c
  if isNaN fmt a || isNaN fmt b || isNaN fmt c then
    nan fmt (isSNaN cfg fmt a || isSNaN cfg fmt b || isSNaN cfg fmt c || infzero)
  else if infzero then nan fmt true
  else if isInf fmt a || isInf fmt b then
    if isInf fmt c && signOf fmt c != sp then nan fmt true else exact (ofFields fmt sp (expMax fmt) 0)
  else if isInf fmt c then exact c
  else if x = 0 then exact (zeroSum fmt sp (signOf fmt c) dir)
  else roundedTo cfg.tininess fmt x dir

/-- add(fmt, a, b, dir) (43_arith.md R141). -/
noncomputable def add (cfg : Config) (fmt : Fmt) (a b : Pattern fmt) (dir : Directive) : Raised (FpResult fmt) :=
  let x := value fmt a + value fmt b
  if isNaN fmt a || isNaN fmt b then nan fmt (isSNaN cfg fmt a || isSNaN cfg fmt b)
  else if isInf fmt a && isInf fmt b then if signOf fmt a != signOf fmt b then nan fmt true else exact a
  else if isInf fmt a then exact a
  else if isInf fmt b then exact b
  else if x = 0 then exact (zeroSum fmt (signOf fmt a) (signOf fmt b) dir)
  else roundedTo cfg.tininess fmt x dir

/-- mul(fmt, a, b, dir) (43_arith.md R142). -/
noncomputable def mul (cfg : Config) (fmt : Fmt) (a b : Pattern fmt) (dir : Directive) : Raised (FpResult fmt) :=
  let s := signOf fmt a != signOf fmt b
  let x := value fmt a * value fmt b
  if isNaN fmt a || isNaN fmt b then nan fmt (isSNaN cfg fmt a || isSNaN cfg fmt b)
  else if (isInf fmt a && isZero fmt b) || (isZero fmt a && isInf fmt b) then nan fmt true
  else if isInf fmt a || isInf fmt b then exact (ofFields fmt s (expMax fmt) 0)
  else if x = 0 then exact (ofFields fmt s 0 0)
  else roundedTo cfg.tininess fmt x dir

/-- div(fmt, a, b, dir) (43_arith.md R143). -/
noncomputable def div (cfg : Config) (fmt : Fmt) (a b : Pattern fmt) (dir : Directive) : Raised (FpResult fmt) :=
  let s := signOf fmt a != signOf fmt b
  if isNaN fmt a || isNaN fmt b then nan fmt (isSNaN cfg fmt a || isSNaN cfg fmt b)
  else if (isZero fmt a && isZero fmt b) || (isInf fmt a && isInf fmt b) then nan fmt true
  else if isInf fmt a then exact (ofFields fmt s (expMax fmt) 0)
  else if isInf fmt b then exact (ofFields fmt s 0 0)
  else if isZero fmt b then ⟨.number (ofFields fmt s (expMax fmt) 0), flagDZ⟩
  else if isZero fmt a then exact (ofFields fmt s 0 0)
  else roundedTo cfg.tininess fmt (value fmt a / value fmt b) dir

/-- sqrt(fmt, a, dir) (43_arith.md R144). -/
noncomputable def sqrt (cfg : Config) (fmt : Fmt) (a : Pattern fmt) (dir : Directive) : Raised (FpResult fmt) :=
  if isNaN fmt a then nan fmt (isSNaN cfg fmt a)
  else if isZero fmt a then exact a
  else if signOf fmt a then nan fmt true
  else if isInf fmt a then exact a
  else roundedTo cfg.tininess fmt (Real.sqrt (value fmt a)) dir

/-- lt(x, y) of 44_minmax_compare.md R155: -0 < +0, and otherwise the order of values. -/
noncomputable def minMaxLt (fmt : Fmt) (x y : Pattern fmt) : Prop :=
  if isZero fmt x && isZero fmt y then signOf fmt x = true ∧ signOf fmt y = false
  else extValue fmt x < extValue fmt y

open Classical in
/-- minmax(fmt, a, b, is_min) (44_minmax_compare.md R155). -/
noncomputable def minMax (cfg : Config) (fmt : Fmt) (isMin : Bool) (a b : Pattern fmt) : Raised (FpResult fmt) :=
  { result :=
      if isNaN fmt a && isNaN fmt b then .nan
      else if isNaN fmt a then .number b
      else if isNaN fmt b then .number a
      else if isMin then .number (if minMaxLt fmt b a then b else a)
      else .number (if minMaxLt fmt a b then b else a)
    raised := if isSNaN cfg fmt a || isSNaN cfg fmt b then flagNV else 0#5 }

open Classical in
/-- A comparison: 0 when an operand is a NaN, with invalid on any NaN, or for FEQ on a signaling one; else 1 or 0 by the order of
values (44_minmax_compare.md R160). -/
noncomputable def compare (cfg : Config) (fmt : Fmt) (quiet : Bool) (holds : EReal → EReal → Prop) (a b : Pattern fmt) :
    Raised XWord :=
  if isNaN fmt a || isNaN fmt b then
    ⟨0#64, if !quiet || isSNaN cfg fmt a || isSNaN cfg fmt b then flagNV else 0#5⟩
  else ⟨if holds (extValue fmt a) (extValue fmt b) then 1#64 else 0#64, 0#5⟩

/-- f2i(fmt, a, T, dir): the integer and the flags (45_convert.md R168, saturation values R169). -/
noncomputable def floatToInt (fmt : Fmt) (t : IntType) (a : Pattern fmt) (dir : Directive) : Raised ℤ :=
  let r := rndint (value fmt a) dir
  if isNaN fmt a then ⟨t.max, flagNV⟩
  else if isInf fmt a then ⟨if signOf fmt a then t.min else t.max, flagNV⟩
  else if r < t.min then ⟨t.min, flagNV⟩
  else if t.max < r then ⟨t.max, flagNV⟩
  else ⟨r, if (r : ℝ) ≠ value fmt a then flagNX else 0#5⟩

/-- i2f(fmt, i, T, dir) for the integer z the type reads from the port (45_convert.md R178). -/
noncomputable def intToFloat (cfg : Config) (fmt : Fmt) (z : ℤ) (dir : Directive) : Raised (FpResult fmt) :=
  if z = 0 then exact (ofFields fmt false 0 0) else roundedTo cfg.tininess fmt (z : ℝ) dir

/-- FCVT.S.D (45_convert.md R187). -/
noncomputable def narrow (cfg : Config) (a : Pattern .D) (dir : Directive) : Raised (FpResult .S) :=
  if isNaN .D a then nan .S (isSNaN cfg .D a)
  else if isInf .D a then exact (ofFields .S (signOf .D a) (expMax .S) 0)
  else if isZero .D a then exact (ofFields .S (signOf .D a) 0 0)
  else roundedTo cfg.tininess .S (value .D a) dir

/-- FCVT.D.S (45_convert.md R188). -/
noncomputable def widen (cfg : Config) (a : Pattern .S) : Raised (FpResult .D) :=
  if isNaN .S a then nan .D (isSNaN cfg .S a)
  else if isInf .S a then exact (ofFields .D (signOf .S a) (expMax .D) 0)
  else if isZero .S a then exact (ofFields .D (signOf .S a) 0 0)
  else exact (pack .D (signOf .S a) |value .S a|)

/-- The integer r of a type as XLEN bits: W and WU the 32-bit two's-complement pattern, sign-extended from bit 31 when XLEN = 64;
L and LU the 64-bit pattern (45_convert.md R169). -/
def widened (xlen : Xlen) (t : IntType) (r : ℤ) : XWord :=
  match t, xlen with
  | .w, .rv64 => (BitVec.ofInt 32 r).signExtend 64
  | .wu, .rv64 => (BitVec.ofInt 32 r).signExtend 64
  | .w, .rv32 => (BitVec.ofInt 32 r).zeroExtend 64
  | .wu, .rv32 => (BitVec.ofInt 32 r).zeroExtend 64
  | .l, _ => BitVec.ofInt 64 r
  | .lu, _ => BitVec.ofInt 64 r

/-- The integer z an integer-to-float conversion reads from the port: i[n-1:0], two's complement for W and L (45_convert.md R178). -/
def operand (t : IntType) (i : XWord) : ℤ :=
  match t with
  | .w => if i.toNat % 2 ^ 32 < 2 ^ 31 then (i.toNat % 2 ^ 32 : ℕ) else (i.toNat % 2 ^ 32 : ℕ) - 2 ^ 32
  | .wu => (i.toNat % 2 ^ 32 : ℕ)
  | .l => if i.toNat < 2 ^ 63 then (i.toNat : ℤ) else (i.toNat : ℤ) - 2 ^ 64
  | .lu => i.toNat

/-- The ten classes of 46_classify.md R190, in the order of its table: class k is bit k. -/
def classes (cfg : Config) (fmt : Fmt) (v : Pattern fmt) : List Bool :=
  let neg := signOf fmt v
  let e1 := expOf fmt v == expMax fmt
  let e0 := expOf fmt v == 0
  let z := fracOf fmt v == 0
  [neg && e1 && z, neg && !e1 && !e0, neg && e0 && !z, neg && e0 && z,
   !neg && e0 && z, !neg && e0 && !z, !neg && !e1 && !e0, !neg && e1 && z,
   e1 && !z && isSNaN cfg fmt v, e1 && !z && !isSNaN cfg fmt v]

/-! ## What an operation hands back, and its frame -/

/-- v is a pattern R112 allows for the result: the pattern itself, or for "NaN" the canonical NaN under NAN_MODE = Canonical and any
quiet NaN under Propagate. -/
def Allowed (cfg : Config) {fmt : Fmt} (r : FpResult fmt) (v : Pattern fmt) : Prop :=
  match r with
  | .number w => v = w
  | .nan => isQNaN cfg fmt v = true ∧ (cfg.nanMode = .canonical → v = canonicalNaN cfg fmt)

/-- Everything an operation leaves unchanged whatever it hands back: frm, fp_enabled, the build, the pending interactions. -/
def KeepsControl (s t : State) : Prop :=
  t.frm = s.frm ∧ t.fpEnabled = s.fpEnabled ∧ t.build = s.build ∧ t.inputs = s.inputs

/-- The instruction completes with an FP result: the pattern goes to f[rd] through the adapter, the flags are ORed into fflags,
lib_rm ends at `lib`, lib_flags ends at 0, and no other register changes. -/
def DeliversFp (fmt : Fmt) (i : Instr) (rd : Reg) (p : Raised (FpResult fmt)) (lib : Directive) (s : State) : Prop :=
  ∃ t v, exec i s = .next t ∧ Allowed s.build p.result v
    ∧ t.outcomes = fpOutcome fmt v :: s.outcomes
    ∧ readF rd t = toFpWord s.build.f32Box fmt v
    ∧ (∀ r, r ≠ rd → readF r t = readF r s) ∧ (∀ r, readX r t = readX r s)
    ∧ t.fflags = s.fflags ||| p.raised ∧ t.libFlags = 0#5 ∧ t.libRm = lib ∧ KeepsControl s t
    ∧ (p.result ≠ .nan ∨ s.build.nanMode = .canonical → t.draws = s.draws)

/-- The instruction completes with an integer result: the value goes to x[rd], unless rd is x0; the flags are ORed into fflags,
lib_rm ends at `lib`, lib_flags ends at `libFlags`, and no other register changes. -/
def DeliversInt (i : Instr) (rd : Reg) (p : Raised XWord) (lib : Directive) (libFlags : FlagSet) (s : State) : Prop :=
  ∃ t, exec i s = .next t
    ∧ t.outcomes = .int p.result :: s.outcomes
    ∧ readX rd t = (if rd = 0#5 then 0#64 else p.result)
    ∧ (∀ r, r ≠ rd → readX r t = readX r s) ∧ (∀ r, readF r t = readF r s)
    ∧ t.fflags = s.fflags ||| p.raised ∧ t.libFlags = libFlags ∧ t.libRm = lib ∧ KeepsControl s t
    ∧ t.draws = s.draws

/-! ## The instructions by family and format -/

/-- FMADD, FMSUB, FNMSUB, FNMADD: whether the product and the addend are negated. -/
def fusedInstr : Fmt → Bool → Bool → Reg → Reg → Reg → Reg → RoundingCode → Instr
  | .S, false, false => .fmaddS
  | .S, false, true => .fmsubS
  | .S, true, false => .fnmsubS
  | .S, true, true => .fnmaddS
  | .D, false, false => .fmaddD
  | .D, false, true => .fmsubD
  | .D, true, false => .fnmsubD
  | .D, true, true => .fnmaddD

/-- FADD of the format. -/
def addInstr : Fmt → Reg → Reg → Reg → RoundingCode → Instr
  | .S => .faddS
  | .D => .faddD

/-- FSUB of the format. -/
def subInstr : Fmt → Reg → Reg → Reg → RoundingCode → Instr
  | .S => .fsubS
  | .D => .fsubD

/-- FMUL of the format. -/
def mulInstr : Fmt → Reg → Reg → Reg → RoundingCode → Instr
  | .S => .fmulS
  | .D => .fmulD

/-- FDIV of the format. -/
def divInstr : Fmt → Reg → Reg → Reg → RoundingCode → Instr
  | .S => .fdivS
  | .D => .fdivD

/-- FSQRT of the format. -/
def sqrtInstr : Fmt → Reg → Reg → RoundingCode → Instr
  | .S => .fsqrtS
  | .D => .fsqrtD

/-- FMIN (true) and FMAX (false) of the format. -/
def minMaxInstr : Fmt → Bool → Reg → Reg → Reg → Instr
  | .S, true => .fminS
  | .S, false => .fmaxS
  | .D, true => .fminD
  | .D, false => .fmaxD

/-- FEQ of the format. -/
def eqInstr : Fmt → Reg → Reg → Reg → Instr
  | .S => .feqS
  | .D => .feqD

/-- FLT of the format. -/
def ltInstr : Fmt → Reg → Reg → Reg → Instr
  | .S => .fltS
  | .D => .fltD

/-- FLE of the format. -/
def leInstr : Fmt → Reg → Reg → Reg → Instr
  | .S => .fleS
  | .D => .fleD

/-- FCVT.<type>.<format>. -/
def toIntInstr : Fmt → IntType → Reg → Reg → RoundingCode → Instr
  | .S, .w => .fcvtWS
  | .S, .wu => .fcvtWuS
  | .S, .l => .fcvtLS
  | .S, .lu => .fcvtLuS
  | .D, .w => .fcvtWD
  | .D, .wu => .fcvtWuD
  | .D, .l => .fcvtLD
  | .D, .lu => .fcvtLuD

/-- FCVT.<format>.<type>. -/
def fromIntInstr : Fmt → IntType → Reg → Reg → RoundingCode → Instr
  | .S, .w => .fcvtSW
  | .S, .wu => .fcvtSWu
  | .S, .l => .fcvtSL
  | .S, .lu => .fcvtSLu
  | .D, .w => .fcvtDW
  | .D, .wu => .fcvtDWu
  | .D, .l => .fcvtDL
  | .D, .lu => .fcvtDLu

/-- FCLASS of the format. -/
def classInstr : Fmt → Reg → Reg → Instr
  | .S => .fclassS
  | .D => .fclassD

end Sys2Proof.Reference
end

