-- ==== Sys2Proof/Safety.lean ====
section
/-! DEFINITION. The terms statements use of a run: the invariant of the state, the outcome classes of a request (60_exceptions.md
R208), and what a program can observe (10_state.md R44; 70_reset_and_hazards.md R222). -/

namespace Sys2Proof.Machine

/-- The invariant of every state a run reaches: lib_flags is 0 at a step boundary (10_state.md R37); x0's storage is 0 (R32); and
when XLEN = 32 every integer register holds 32 bits (R32; log entry 13). -/
abbrev State.Inv (s : State) : Prop :=
  s.libFlags = 0#5 ∧ s.x.get 0 = 0#64 ∧ (s.build.xlen = .rv32 → ∀ r : Fin 32, (s.x.get r).toNat < 2 ^ 32)

/-- The request completed: a result was handed back (R208). -/
def Completed (s : State) (r : StepResult) : Prop :=
  ∃ t o, r = .next t ∧ t.outcomes = o :: s.outcomes ∧ ∀ c, o ≠ .trap c

/-- The request trapped: the outcome is the trap and nothing else changed (R194, R208). -/
def Trapped (s : State) (r : StepResult) : Prop :=
  r = .next { s with outcomes := .trap .illegalInstruction :: s.outcomes }

/-- The model has no meaning for the request (R208). -/
def Refused (r : StepResult) : Prop := ∃ q, r = .refused q

/-- The gate passes for an operation that is gated as `isGated` says (40_control_path.md R81). -/
def GatePasses (isGated : Bool) (s : State) : Prop :=
  s.build.gatePresent = false ∨ isGated = false ∨ s.fpEnabled = true

/-- What is observed at the end of a run (70_reset_and_hazards.md R222). -/
structure Observation where
  outcomes : List OpOutcome
  frm : BitVec 3
  fflags : FlagSet
  fpEnabled : Bool
  deriving DecidableEq, Repr

/-- The observation of a state. -/
def observe (s : State) : Observation := ⟨s.outcomes, s.frm, s.fflags, s.fpEnabled⟩

/-- Two states that differ at most in lib_flags and lib_rm (10_state.md R44). -/
def SameButLib (a b : State) : Prop := { a with libFlags := b.libFlags, libRm := b.libRm } = b

/-- Two results that agree but for lib_flags and lib_rm of the next state. -/
def SameResultButLib (r q : StepResult) : Prop :=
  match r, q with
  | .next a, .next b => SameButLib a b
  | .refused a, .refused b => a = b
  | .next _, .refused _ => False
  | .refused _, .next _ => False
  | .fault _, _ => False
  | _, .fault _ => False

end Sys2Proof.Machine
end

