-- ==== Sys2Proof/Certificates/Slice0/Obligations.lean ====
section
/-! DEFINITION. The statements for the provers. Each docstring names the rule of spec/ it formalises. Every statement holds for every
build (00_scope.md R10) unless it says otherwise; `Reference` is the spec's pseudocode over the reals. -/

open Sys2Proof Sys2Proof.Machine

/-! ## Encoding and decoding -/

/-- 30_encoding.md R67: the table has 48 rows, no word matches two of them, and where a row exists a word matches it iff it decodes to
an operation with the row's mnemonic. -/
def Obligations.OpcodeTableDecodesRowByRow : Prop :=
  opcodeTable.length = 48
    ∧ (∀ r ∈ opcodeTable, ∀ q ∈ opcodeTable, ∀ w, r.matches w = true → q.matches w = true → r = q)
    ∧ ∀ xlen, ∀ r ∈ opcodeTable, (r.rv64Only = true → xlen = .rv64) → ∀ w,
        (r.matches w = true ↔ ∃ i, decode xlen w = .op i ∧ i.mnemonic = r.mnemonic)

/-- No bit of an encoding is dropped by the encoder: every well-formed instruction, with every register and rounding code, decodes
back from its word (30_encoding.md R61, R62, R67, R71). -/
def Obligations.DecodeOfEncodeIsTheInstruction : Prop :=
  ∀ xlen i, i.wf xlen = true → decode xlen (encode i) = .op i

/-- No bit of a word is dropped by the decoder: a word that decodes to an operation is that operation's encoding, and the operation
exists in the build (30_encoding.md R61, R62, R67, R71; 00_scope.md R11). -/
def Obligations.EncodeOfDecodeIsTheWord : Prop :=
  ∀ xlen w i, decode xlen w = .op i → encode i = w ∧ i.wf xlen = true

/-- Words the spec assembled by hand (95_test_vectors.md Parts 1 and 3) decode to what it says they are. -/
def Obligations.HandAssembledWordsDecode : Prop :=
  decode .rv64 0x002081D3#32 = .op (.faddS 3 1 2 0)
    ∧ decode .rv64 0x1A2081D3#32 = .op (.fdivD 3 1 2 0)
    ∧ decode .rv64 0xE0009553#32 = .op (.fclassS 10 1)
    ∧ decode .rv64 0x18208247#32 = .op (.fmsubS 4 1 2 3 0)
    ∧ decode .rv64 0x1820844F#32 = .op (.fnmaddS 8 1 2 3 0)
    ∧ decode .rv64 0x282081D3#32 = .op (.fminS 3 1 2)
    ∧ decode .rv64 0xA0141553#32 = .op (.fltS 10 8 1)
    ∧ decode .rv64 0xC02247D3#32 = .op (.fcvtLS 15 4 4)
    ∧ decode .rv64 0xD00500D3#32 = .op (.fcvtSW 1 10 0)
    ∧ decode .rv64 0x401302D3#32 = .op (.fcvtSD 5 6 0)
    ∧ decode .rv64 0x5A0174D3#32 = .op (.fsqrtD 9 2 7)

/-- 30_encoding.md R69, third bullet: under OP-FP and the four fused opcodes, a word is illegal iff it matches no row of R67 and no
row of R68 that exists in the build. R69 says that the L and LU rows are absent when XLEN = 32; that the rows of R68 marked RV64
(FMV.X.D, FMV.D.X) are absent there too is the model's reading, not the spec's words (DEDUCED, log entry 12). -/
def Obligations.UnlistedFpWordsAreIllegal : Prop :=
  ∀ xlen w,
    (opcodeField w = 0b1010011#7 ∨ opcodeField w = 0b1000011#7 ∨ opcodeField w = 0b1000111#7 ∨ opcodeField w = 0b1001011#7
        ∨ opcodeField w = 0b1001111#7) →
    (decode xlen w = .illegal ↔
      (∀ r ∈ opcodeTable, r.matches w = true → r.rv64Only = true ∧ xlen = .rv32)
        ∧ ∀ r ∈ elsewhereTable, r.matches w = true → r.rv64Only = true ∧ xlen = .rv32)

/-- 30_encoding.md R68: the F/D instructions outside the block are sent to their units, not to the block. The clause on CSR words rests
on the CSR format, which R68 does not give (log entry 10). -/
def Obligations.OutsideInstructionsGoToTheirUnits : Prop :=
  (∀ xlen, ∀ r ∈ elsewhereTable, (r.rv64Only = true → xlen = .rv64) → ∀ w, r.matches w = true → decode xlen w = .elsewhere r.unit)
    ∧ ∀ xlen (csr rs1 rd) (f3 : RoundingCode), (csr = 1#12 ∨ csr = 2#12 ∨ csr = 3#12) → f3 ≠ 0#3 → f3 ≠ 4#3 →
        decode xlen ((csr : BitVec 12) ++ (rs1 : Reg) ++ f3 ++ (rd : Reg) ++ 0b1110011#7) = .elsewhere .csr

/-! ## Steps -/

/-- A step runs the decoded instruction: a presented word that decodes to an operation is executed in the state whose queue has lost
that word, and nothing else is added around `exec` (30_encoding.md R71; 70_reset_and_hazards.md R221, R223). -/
def Obligations.StepRunsTheDecodedInstruction : Prop :=
  ∀ s w rest i, s.inputs = .present w :: rest → decode s.build.xlen w = .op i → step s = exec i { s with inputs := rest }

/-- The other steps: an illegal word traps in the decoder (30_encoding.md R69; log entry 9), a word of another unit or of the CPU is
refused by name (R68; log entry 10), and with nothing pending nothing happens (log entry 6). -/
def Obligations.StepOnWordsThatAreNoOperation : Prop :=
  ∀ s : State,
    (s.inputs = [] → step s = .next s)
    ∧ ∀ w rest, s.inputs = .present w :: rest →
        (decode s.build.xlen w = .illegal → Trapped { s with inputs := rest } (step s))
        ∧ (∀ u, decode s.build.xlen w = .elsewhere u → step s = .refused .otherUnit)
        ∧ (decode s.build.xlen w = .foreign → step s = .refused .foreignWord)

/-- The host's load of one word: the very next step presents exactly that word, with everything else unchanged (log entry 5). -/
def Obligations.FetchedWordIsPresentedNext : Prop :=
  ∀ (s : State) w, w < 2 ^ 32 → step (s.withFetchWord 32 w) = presentWord (BitVec.ofNat 32 w) s

/-- Each host interaction changes what it says and nothing else. The writes of frm, fflags and fp_enabled, and that a CSR read has no
effect on the block, are 70_reset_and_hazards.md R223, with the views of 10_state.md R27 and R28. The model's own: that a CSR read
lands in x[rd], and that bits 31 to 8 of a written fcsr are ignored (DEDUCED, log entry 15); the two loads of a register, which R223's
table does not have (DESIGN CHOICE, log entry 16); a register holds the low XLEN bits of an integer (log entry 13). -/
def Obligations.HostInteractionsChangeWhatTheySay : Prop :=
  ∀ (s : State) (rest : List HostAction),
    (∀ v, step { s with inputs := .writeFrm v :: rest } = .next { s with inputs := rest, frm := v })
    ∧ (∀ v, step { s with inputs := .writeFflags v :: rest } = .next { s with inputs := rest, fflags := v })
    ∧ (∀ v : BitVec 32, step { s with inputs := .writeFcsr v :: rest } =
        .next { s with inputs := rest, fflags := BitVec.ofNat 5 v.toNat, frm := BitVec.ofNat 3 (v.toNat / 2 ^ 5) })
    ∧ (∀ on, step { s with inputs := .setFpEnabled on :: rest } = .next { s with inputs := rest, fpEnabled := on })
    ∧ (∀ v : BitVec 64, step { s with inputs := .writeMstatus v :: rest } =
        .next { s with inputs := rest, fpEnabled := decide (v.toNat / 2 ^ 13 % 4 ≠ 0) })
    ∧ (∀ csr rd, ∃ t, step { s with inputs := .readCsr csr rd :: rest } = .next t
        ∧ { t with x := s.x } = { s with inputs := rest }
        ∧ (∀ r, r ≠ rd → readX r t = readX r s)
        ∧ (rd = 0#5 → t = { s with inputs := rest })
        ∧ (rd ≠ 0#5 → (readX rd t).toNat =
            match csr with
            | .fflags => s.fflags.toNat
            | .frm => s.frm.toNat
            | .fcsr => s.frm.toNat * 2 ^ 5 + s.fflags.toNat))
    ∧ (∀ r v, ∃ t, step { s with inputs := .loadF r v :: rest } = .next t
        ∧ { t with f := s.f } = { s with inputs := rest }
        ∧ readF r t = v ∧ ∀ q, q ≠ r → readF q t = readF q s)
    ∧ (∀ r v, ∃ t, step { s with inputs := .loadX r v :: rest } = .next t
        ∧ { t with x := s.x } = { s with inputs := rest }
        ∧ (∀ q, q ≠ r → readX q t = readX q s)
        ∧ (r = 0#5 → t = { s with inputs := rest })
        ∧ (r ≠ 0#5 → (readX r t).toNat =
            match s.build.xlen with
            | .rv32 => v.toNat % 2 ^ 32
            | .rv64 => v.toNat))

/-- 40_control_path.md R92: no step clears a bit of fflags but a host write of fflags or fcsr, or the CPU's reset. -/
def Obligations.OnlyTheHostClearsFlags : Prop :=
  ∀ s t : State, step s = .next t →
    (∀ v rest, s.inputs ≠ .writeFflags v :: rest) → (∀ v rest, s.inputs ≠ .writeFcsr v :: rest) →
    (∀ rest, s.inputs ≠ .reset :: rest) → ∃ f, t.fflags = s.fflags ||| f

/-! ## Reset and the invariant -/

/-- 10_state.md R40 and 70_reset_and_hazards.md R210: the reset values of the block's state, in every build, as the state after reset
has them and as a CPU reset gives them between operations. -/
def Obligations.ResetGivesTheBlockItsValues : Prop :=
  (∀ c : Config, (State.resetOf c).frm = 0#3 ∧ (State.resetOf c).fflags = 0#5 ∧ (State.resetOf c).fpEnabled = c.resetFpEnabled
      ∧ (State.resetOf c).libFlags = 0#5 ∧ (State.resetOf c).libRm = .rne ∧ (State.resetOf c).build = c)
    ∧ State.reset.fpEnabled = false
    ∧ ∀ (s : State) rest, step { s with inputs := .reset :: rest } =
        .next { s with inputs := rest, frm := 0#3, fflags := 0#5, fpEnabled := s.build.resetFpEnabled, libFlags := 0#5, libRm := .rne }

/-- The invariant holds after reset in every build (10_state.md R37, R32; the register values are the model's choice, log entry 2). -/
def Obligations.InvariantHoldsAfterReset : Prop := ∀ c : Config, (State.resetOf c).Inv

/-- 10_state.md R37 and R32: every step, of an operation or of the host, keeps lib_flags at 0 between steps, x0's storage at 0, and,
when XLEN = 32, every integer register within 32 bits (log entry 13). -/
def Obligations.EveryStepKeepsTheInvariant : Prop := ∀ s t : State, s.Inv → step s = .next t → t.Inv

/-- 70_reset_and_hazards.md R211: straight after reset every gated operation traps and FCLASS completes; the dynamic rounding code
resolves to RNE; no exception is recorded. The width 64 is the model's choice (log entry 3). -/
def Obligations.AfterResetOnlyClassifyRuns : Prop :=
  (∀ i, gated State.reset.build i = true → Trapped State.reset (exec i State.reset))
    ∧ (∀ fmt rd rs1, Completed State.reset (exec (Reference.classInstr fmt rd rs1) State.reset))
    ∧ resolve State.reset 7#3 = some .rne ∧ State.reset.fflags = 0#5

/-- 10_state.md R32: x0 reads as 0, and no operation ever writes its storage. -/
def Obligations.IntegerRegisterZeroIsHardwired : Prop :=
  (∀ s, readX 0#5 s = 0#64) ∧ ∀ i s t, exec i s = .next t → t.x.get 0 = s.x.get 0

/-! ## The control path -/

/-- 40_control_path.md R81: with the gate present, the operation gated and fp_enabled = 0, the outcome is the trap and the state is
left unchanged; with fp_enabled = 1 the gate has no effect: the operation does what it does in a build without the gate. -/
def Obligations.GateTrapsWhenFpIsDisabled : Prop :=
  (∀ i (s : State), i.wf s.build.xlen = true → s.build.gatePresent = true → gated s.build i = true → s.fpEnabled = false →
      Trapped s (exec i s))
    ∧ ∀ i (s t : State), s.fpEnabled = true → exec i s = .next t → ∀ present,
        exec i { s with build := { s.build with gatePresent := present } } =
          .next { t with build := { s.build with gatePresent := present } }

/-- 40_control_path.md R82: in a build without the gate no operation's result depends on fp_enabled. -/
def Obligations.WithoutTheGateTheEnableIsIgnored : Prop :=
  ∀ i (s : State) on, s.build.gatePresent = false →
    (∀ t, exec i s = .next t → exec i { s with fpEnabled := on } = .next { t with fpEnabled := on })
    ∧ ∀ q, exec i s = .refused q → exec i { s with fpEnabled := on } = .refused q

/-- 40_control_path.md R83: FCLASS runs whatever fp_enabled holds when CLASSIFY_GATED is false, the value taken, and is gated like
every other operation when it is true. -/
def Obligations.ClassificationFollowsItsGateParameter : Prop :=
  State.reset.build.classifyGated = false
    ∧ ∀ fmt rd rs1 (s : State),
        (s.build.classifyGated = false → Completed s (exec (Reference.classInstr fmt rd rs1) s))
        ∧ (s.build.classifyGated = true →
            (s.build.gatePresent = true ∧ s.fpEnabled = false → Trapped s (exec (Reference.classInstr fmt rd rs1) s))
            ∧ (s.build.gatePresent = false ∨ s.fpEnabled = true → Completed s (exec (Reference.classInstr fmt rd rs1) s)))

/-- 40_control_path.md R85 and R86: codes 0 to 4 name the five directives, 5 and 6 fail, and 7 takes the directive of frm once,
failing when frm is 5, 6 or 7. -/
def Obligations.ResolverMapsCodes : Prop :=
  ∀ s : State,
    resolve s 0#3 = some .rne ∧ resolve s 1#3 = some .rtz ∧ resolve s 2#3 = some .rdn ∧ resolve s 3#3 = some .rup
    ∧ resolve s 4#3 = some .rmm ∧ resolve s 5#3 = none ∧ resolve s 6#3 = none
    ∧ (s.frm ≠ 7#3 → resolve s 7#3 = resolve s s.frm) ∧ (s.frm = 7#3 → resolve s 7#3 = none)

/-- 60_exceptions.md R195, second row: every rounding-dependent operation traps when its code has no directive, whether the gate
passes or not, and nothing is written (40_control_path.md R85). -/
def Obligations.UnresolvableRoundingCodeTraps : Prop :=
  ∀ i rm (s : State), i.wf s.build.xlen = true → roundingCode i = some rm → resolve s rm = none → Trapped s (exec i s)

/-- 44_minmax_compare.md R167 (and 40_control_path.md R87, 41_ieee_numerics.md R119): the operations without a rounding code give the
same result and flags under every value of frm and lib_rm, never trap on one, and leave both alone. -/
def Obligations.MinMaxCompareClassifyIgnoreRounding : Prop :=
  ∀ i (s t : State) m d, roundingCode i = none → exec i s = .next t →
    exec i { s with frm := m, libRm := d } = .next { t with frm := m, libRm := d }

/-- 10_state.md R38: fflags only accumulate, and a trap adds nothing. -/
def Obligations.FlagsOnlyAccumulate : Prop :=
  ∀ i (s t : State), exec i s = .next t →
    ∃ f, t.fflags = s.fflags ||| f ∧ ((∃ c, t.outcomes = .trap c :: s.outcomes) → f = 0#5)

/-- 10_state.md R39: an operation never writes frm or fp_enabled, nor the build or the queue, and a trapping one writes nothing but
its outcome. -/
def Obligations.OperationsWriteOnlyFlagsAndLibState : Prop :=
  ∀ i (s t : State), exec i s = .next t →
    Reference.KeepsControl s t
    ∧ ∀ c, t.outcomes = .trap c :: s.outcomes → t = { s with outcomes := t.outcomes }

/-- 40_control_path.md R91 and R96: what an operation adds to fflags does not depend on fflags before it. -/
def Obligations.FlagContributionIsIndependentOfFlags : Prop :=
  ∀ i (s t : State), exec i s = .next t → ∃ c, ∀ v, exec i { s with fflags := v } = .next { t with fflags := v ||| c }

/-- 60_exceptions.md R196: the flags one operation raises are none, NX, UF with NX, OF with NX, NV alone, or DZ alone, and DZ comes
from FDIV only. -/
def Obligations.OperationsRaiseOnlyTheListedFlagSets : Prop :=
  ∀ i (s t : State), exec i s = .next t →
    ∃ fl ∈ [0#5, 0b00001#5, 0b00011#5, 0b00101#5, 0b10000#5, 0b01000#5],
      (∀ v, exec i { s with fflags := v } = .next { t with fflags := v ||| fl })
      ∧ (fl = 0b01000#5 → ∃ fmt rd rs1 rs2 rm, i = Reference.divInstr fmt rd rs1 rs2 rm)

/-- 10_state.md R44: no sequence of steps tells two states apart that differ only in lib_flags or lib_rm. -/
def Obligations.LibStateIsNeverObservable : Prop :=
  ∀ (k : Nat) (s t : State), SameButLib s t →
    SameResultButLib (Host.Core.run Sys2Proof.core k s) (Host.Core.run Sys2Proof.core k t)

/-- 60_exceptions.md R209: the outcome, the registers written and the flags are a function of the request, its operands and frm,
fflags and fp_enabled; the NaN draw under NAN_MODE = Propagate is held equal. -/
def Obligations.OutcomeIsAFunctionOfTheRequest : Prop :=
  ∀ i (s s' t : State), exec i s = .next t →
    s'.build = s.build → s'.frm = s.frm → s'.fflags = s.fflags → s'.fpEnabled = s.fpEnabled → s'.f = s.f → s'.x = s.x →
    (s.build.nanMode = .propagate → s'.draws = s.draws) →
    ∃ t' o, exec i s' = .next t' ∧ t.outcomes = o :: s.outcomes ∧ t'.outcomes = o :: s'.outcomes
      ∧ t'.f = t.f ∧ t'.x = t.x ∧ t'.fflags = t.fflags ∧ t'.frm = t.frm ∧ t'.fpEnabled = t.fpEnabled

/-- 60_exceptions.md R208: every request completes, traps, or is refused, exactly one of them; it is refused only when the operation
does not exist in the build, and never faults. -/
def Obligations.EveryRequestCompletesTrapsOrIsRefused : Prop :=
  ∀ i (s : State),
    (i.wf s.build.xlen = true →
      (Completed s (exec i s) ∨ Trapped s (exec i s)) ∧ ¬(Completed s (exec i s) ∧ Trapped s (exec i s)))
    ∧ (i.wf s.build.xlen = false → exec i s = .refused .absentOperation)

/-- 60_exceptions.md R195 with 40_control_path.md R95: an operation of the build completes exactly when the gate passes and its
rounding code, if it has one, resolves; no IEEE condition ends one. This covers all 48 instructions. -/
def Obligations.OperationsCompleteExactlyWhenEnabled : Prop :=
  ∀ i (s : State), i.wf s.build.xlen = true →
    (Completed s (exec i s) ↔
      GatePasses (gated s.build i) s ∧ ∀ rm, roundingCode i = some rm → ∃ dir, resolve s rm = some dir)

/-- 60_exceptions.md R198: a trapped operation run again in the state it left gives the same trap. -/
def Obligations.ReturningToATrappedOperationTrapsAgain : Prop :=
  ∀ i (s t : State), Trapped s (exec i s) → exec i s = .next t → Trapped t (exec i t)

/-- 40_control_path.md R88 and R89: the Translator moves each IEEE flag to its fflags bit, ORs it in, empties lib_flags, and touches
nothing else. -/
def Obligations.TranslatorOrsEachFlagIntoItsBit : Prop :=
  (∀ raised : FlagSet, ∀ k < 5, (Machine.translate raised).getLsbD k = raised.getLsbD k)
    ∧ ∀ s : State, drain s = { s with fflags := s.fflags ||| Machine.translate s.libFlags, libFlags := 0#5 }

/-! ## Formats and rounding -/

/-- 41_ieee_numerics.md R104 and R111: the named constants, as patterns and as values. -/
def Obligations.NamedConstantsOfTheFormats : Prop :=
  maxFinite .S false = 0x7F7FFFFF#32 ∧ maxFinite .D false = 0x7FEFFFFFFFFFFFFF#64
    ∧ maxFinite .S true = 0xFF7FFFFF#32 ∧ maxFinite .D true = 0xFFEFFFFFFFFFFFFF#64
    ∧ infinity .S false = 0x7F800000#32 ∧ infinity .D false = 0x7FF0000000000000#64
    ∧ infinity .S true = 0xFF800000#32 ∧ infinity .D true = 0xFFF0000000000000#64
    ∧ zero .S false = 0#32 ∧ zero .S true = 0x80000000#32 ∧ zero .D false = 0#64 ∧ zero .D true = 0x8000000000000000#64
    ∧ canonicalNaN Config.taken .S = 0x7FC00000#32 ∧ canonicalNaN Config.taken .D = 0x7FF8000000000000#64
    ∧ canonicalNaN { Config.taken with snanBitIsOne := true } .S = 0x7FBFFFFF#32
    ∧ canonicalNaN { Config.taken with snanBitIsOne := true } .D = 0x7FF7FFFFFFFFFFFF#64
    ∧ Reference.value .S 0x7F7FFFFF#32 = Reference.maxf .S ∧ Reference.value .D 0x7FEFFFFFFFFFFFFF#64 = Reference.maxf .D
    ∧ Reference.value .S 0x00800000#32 = 2 ^ (-126 : ℤ) ∧ Reference.value .D 0x0010000000000000#64 = 2 ^ (-1022 : ℤ)
    ∧ Reference.value .S 0x00000001#32 = 2 ^ (-149 : ℤ) ∧ Reference.value .D 0x0000000000000001#64 = 2 ^ (-1074 : ℤ)

/-- 41_ieee_numerics.md R108: the overflow result by direction and sign. -/
def Obligations.OverflowResultsByDirection : Prop :=
  ∀ fmt,
    overflowPattern fmt false .rne = infinity fmt false ∧ overflowPattern fmt true .rne = infinity fmt true
    ∧ overflowPattern fmt false .rmm = infinity fmt false ∧ overflowPattern fmt true .rmm = infinity fmt true
    ∧ overflowPattern fmt false .rtz = maxFinite fmt false ∧ overflowPattern fmt true .rtz = maxFinite fmt true
    ∧ overflowPattern fmt false .rdn = maxFinite fmt false ∧ overflowPattern fmt true .rdn = infinity fmt true
    ∧ overflowPattern fmt false .rup = infinity fmt false ∧ overflowPattern fmt true .rup = maxFinite fmt true

/-- 41_ieee_numerics.md R103 and R104: a finite pattern's value is its sign times its units of MINSUB, and packing those units gives
the pattern back, subnormals and both zeros included. -/
def Obligations.PackingTheValueGivesThePatternBack : Prop :=
  ∀ fmt (v : Pattern fmt), isNaN fmt v = false → isInf fmt v = false →
    Machine.pack fmt (signOf fmt v) (units fmt v) = v
    ∧ Reference.value fmt v = Reference.signFactor (signOf fmt v) * units fmt v * (2 : ℝ) ^ (emin fmt - fracBits fmt)

/-- 41_ieee_numerics.md R118: isqrt is the floor of the square root. -/
def Obligations.IntegerSquareRootIsTheFloor : Prop :=
  ∀ n, isqrt n * isqrt n ≤ n ∧ n < (isqrt n + 1) * (isqrt n + 1)

/-- 41_ieee_numerics.md R106, with R107 to R109 and R118: the exact whole-number rounding of a quotient or of a square root equals the
spec's rounding of the real number, in result and flags, in both formats, for every directive and both tininess rules. -/
def Obligations.RoundingMatchesTheReals : Prop :=
  ∀ t fmt s dir num den, 0 < num → 0 < den →
    Machine.round t fmt s (.ratio num den) dir = Reference.roundMagnitude t fmt s ((num : ℝ) / den) dir
    ∧ Machine.round t fmt s (.root num den) dir = Reference.roundMagnitude t fmt s (Real.sqrt ((num : ℝ) / den)) dir

/-- 41_ieee_numerics.md R112 (NAN_MODE = Propagate): every draw is a quiet NaN of the format, and every quiet NaN, with any sign and
payload, is some draw. -/
def Obligations.NaNDrawsAreExactlyTheQuietNaNs : Prop :=
  ∀ c fmt, (∀ bits, isQNaN c fmt (quietNaN c fmt bits) = true)
    ∧ ∀ v, isQNaN c fmt v = true → ∃ bits, quietNaN c fmt bits = v

/-- 42_fma.md R130: the flip is an exclusive-or with the sign-bit mask; it inverts the sign and nothing else, and keeps the kind of a
NaN. -/
def Obligations.SignFlipInvertsOnlyTheSign : Prop :=
  (∀ v : BitVec 32, Machine.flip .S v = v ^^^ 0x80000000#32) ∧ (∀ v : BitVec 64, Machine.flip .D v = v ^^^ 0x8000000000000000#64)
    ∧ ∀ c fmt (v : Pattern fmt),
        signOf fmt (Machine.flip fmt v) = !signOf fmt v ∧ expOf fmt (Machine.flip fmt v) = expOf fmt v
        ∧ fracOf fmt (Machine.flip fmt v) = fracOf fmt v
        ∧ isSNaN c fmt (Machine.flip fmt v) = isSNaN c fmt v ∧ isQNaN c fmt (Machine.flip fmt v) = isQNaN c fmt v

/-- 10_state.md R34: the boxing adapter, as numbers, in both modes. Every S operand is read from f[r] through read_S and every S result
is written through write_S, under the build's F32_BOX; D values pass through unchanged (R33). -/
def Obligations.BoxingAdapterReadsAndWritesSingles : Prop :=
  (∀ r : FpWord, r.toNat / 2 ^ 32 = 0xFFFFFFFF → (readS .nanBox r).toNat = r.toNat % 2 ^ 32)
    ∧ (∀ r : FpWord, r.toNat / 2 ^ 32 ≠ 0xFFFFFFFF → readS .nanBox r = 0x7FC00000#32)
    ∧ (∀ r : FpWord, (readS .truncate r).toNat = r.toNat % 2 ^ 32)
    ∧ (∀ v : BitVec 32, (writeS .nanBox v).toNat = 0xFFFFFFFF * 2 ^ 32 + v.toNat)
    ∧ (∀ v : BitVec 32, (writeS .truncate v).toNat = v.toNat)
    ∧ (∀ r (s : State), readPort .S r s = readS s.build.f32Box (readF r s)) ∧ (∀ b v, toFpWord b .S v = writeS b v)
    ∧ (∀ r (s : State), readPort .D r s = readF r s) ∧ ∀ b v, toFpWord b .D v = v

/-! ## The operations: result, flags and frame -/

/-- 42_fma.md R131 to R139: FMADD, FMSUB, FNMSUB and FNMADD in both formats, on every operand, deliver one exact multiply-add with one
rounding, operand 1 flipped where the product is negated and operand 3 where the addend is, and change nothing else. -/
def Obligations.FusedMultiplyAddDeliversTheSpecResult : Prop :=
  ∀ fmt negProduct negAddend rd rs1 rs2 rs3 rm dir (s : State), GatePasses true s → resolve s rm = some dir →
    let a := readPort fmt rs1 s
    let c := readPort fmt rs3 s
    Reference.DeliversFp fmt (Reference.fusedInstr fmt negProduct negAddend rd rs1 rs2 rs3 rm) rd
      (Reference.fma s.build fmt (if negProduct then a ^^^ signMask fmt else a) (readPort fmt rs2 s)
        (if negAddend then c ^^^ signMask fmt else c) dir) dir s

/-- 43_arith.md R141, R145, R146, R150, R151: FADD and FSUB in both formats, on every operand. -/
def Obligations.AddAndSubtractDeliverTheSpecResult : Prop :=
  ∀ fmt rd rs1 rs2 rm dir (s : State), GatePasses true s → resolve s rm = some dir →
    Reference.DeliversFp fmt (Reference.addInstr fmt rd rs1 rs2 rm) rd
        (Reference.add s.build fmt (readPort fmt rs1 s) (readPort fmt rs2 s) dir) dir s
    ∧ Reference.DeliversFp fmt (Reference.subInstr fmt rd rs1 rs2 rm) rd
        (Reference.add s.build fmt (readPort fmt rs1 s) (readPort fmt rs2 s ^^^ signMask fmt) dir) dir s

/-- 43_arith.md R142, R147, R152: FMUL in both formats, on every operand. -/
def Obligations.MultiplyDeliversTheSpecResult : Prop :=
  ∀ fmt rd rs1 rs2 rm dir (s : State), GatePasses true s → resolve s rm = some dir →
    Reference.DeliversFp fmt (Reference.mulInstr fmt rd rs1 rs2 rm) rd
      (Reference.mul s.build fmt (readPort fmt rs1 s) (readPort fmt rs2 s) dir) dir s

/-- 43_arith.md R143, R148, R153: FDIV in both formats, on every operand, division by zero included. -/
def Obligations.DivideDeliversTheSpecResult : Prop :=
  ∀ fmt rd rs1 rs2 rm dir (s : State), GatePasses true s → resolve s rm = some dir →
    Reference.DeliversFp fmt (Reference.divInstr fmt rd rs1 rs2 rm) rd
      (Reference.div s.build fmt (readPort fmt rs1 s) (readPort fmt rs2 s) dir) dir s

/-- 43_arith.md R144, R149, R154: FSQRT in both formats, on every operand. -/
def Obligations.SquareRootDeliversTheSpecResult : Prop :=
  ∀ fmt rd rs1 rm dir (s : State), GatePasses true s → resolve s rm = some dir →
    Reference.DeliversFp fmt (Reference.sqrtInstr fmt rd rs1 rm) rd
      (Reference.sqrt s.build fmt (readPort fmt rs1 s) dir) dir s

/-- 43_arith.md R144 with 41_ieee_numerics.md R118: a square root raises nothing, NX, or NV. -/
def Obligations.SquareRootRaisesAtMostInexactOrInvalid : Prop :=
  ∀ fmt rd rs1 rm (s t : State), exec (Reference.sqrtInstr fmt rd rs1 rm) s = .next t →
    t.fflags = s.fflags ∨ t.fflags = s.fflags ||| 0b00001#5 ∨ t.fflags = s.fflags ||| 0b10000#5

/-- 44_minmax_compare.md R155 to R159: FMIN and FMAX in both formats, on every operand; lib_rm stays. -/
def Obligations.MinAndMaxDeliverTheSpecResult : Prop :=
  ∀ fmt isMin rd rs1 rs2 (s : State), GatePasses true s →
    Reference.DeliversFp fmt (Reference.minMaxInstr fmt isMin rd rs1 rs2) rd
      (Reference.minMax s.build fmt isMin (readPort fmt rs1 s) (readPort fmt rs2 s)) s.libRm s

/-- 44_minmax_compare.md R160 to R166: FEQ, FLT and FLE in both formats, on every operand; lib_rm stays. -/
def Obligations.ComparisonsDeliverTheSpecResult : Prop :=
  ∀ fmt rd rs1 rs2 (s : State), GatePasses true s →
    let a := readPort fmt rs1 s
    let b := readPort fmt rs2 s
    Reference.DeliversInt (Reference.eqInstr fmt rd rs1 rs2) rd
        (Reference.compare s.build fmt true (fun x y => x = y) a b) s.libRm 0#5 s
    ∧ Reference.DeliversInt (Reference.ltInstr fmt rd rs1 rs2) rd
        (Reference.compare s.build fmt false (fun x y => x < y) a b) s.libRm 0#5 s
    ∧ Reference.DeliversInt (Reference.leInstr fmt rd rs1 rs2) rd
        (Reference.compare s.build fmt false (fun x y => x ≤ y) a b) s.libRm 0#5 s

/-- 45_convert.md R168 to R177: the float-to-integer conversions of both formats to W, WU, L and LU, on every operand, saturation and
widening to XLEN included. -/
def Obligations.FloatToIntegerDeliversTheSpecResult : Prop :=
  ∀ fmt ty rd rs1 rm dir (s : State), GatePasses true s → resolve s rm = some dir →
    (ty = .l ∨ ty = .lu → s.build.xlen = .rv64) →
    let r := Reference.floatToInt fmt ty (readPort fmt rs1 s) dir
    Reference.DeliversInt (Reference.toIntInstr fmt ty rd rs1 rm) rd
      ⟨Reference.widened s.build.xlen ty r.result, r.raised⟩ dir 0#5 s

/-- 45_convert.md R178 to R186: the integer-to-float conversions of both formats from W, WU, L and LU, on every operand. -/
def Obligations.IntegerToFloatDeliversTheSpecResult : Prop :=
  ∀ fmt ty rd rs1 rm dir (s : State), GatePasses true s → resolve s rm = some dir →
    (ty = .l ∨ ty = .lu → s.build.xlen = .rv64) →
    Reference.DeliversFp fmt (Reference.fromIntInstr fmt ty rd rs1 rm) rd
      (Reference.intToFloat s.build fmt (Reference.operand ty (readX rs1 s)) dir) dir s

/-- 45_convert.md R178, R183, R184: an integer-to-float conversion raises at most NX, and from W or WU to double nothing. -/
def Obligations.IntegerToFloatRaisesAtMostInexact : Prop :=
  ∀ fmt ty rd rs1 rm (s t : State), exec (Reference.fromIntInstr fmt ty rd rs1 rm) s = .next t →
    (t.fflags = s.fflags ∨ t.fflags = s.fflags ||| 0b00001#5)
    ∧ (fmt = .D → ty = .w ∨ ty = .wu → t.fflags = s.fflags)

/-- 45_convert.md R187: FCVT.S.D, on every operand. -/
def Obligations.NarrowingDeliversTheSpecResult : Prop :=
  ∀ rd rs1 rm dir (s : State), GatePasses true s → resolve s rm = some dir →
    Reference.DeliversFp .S (.fcvtSD rd rs1 rm) rd (Reference.narrow s.build (readPort .D rs1 s) dir) dir s

/-- 45_convert.md R188: FCVT.D.S, on every operand; on a finite one the double has the single's value. -/
def Obligations.WideningDeliversTheSpecResult : Prop :=
  (∀ rd rs1 rm dir (s : State), GatePasses true s → resolve s rm = some dir →
      Reference.DeliversFp .D (.fcvtDS rd rs1 rm) rd (Reference.widen s.build (readPort .S rs1 s)) dir s)
    ∧ ∀ c (a : Pattern .S), isNaN .S a = false → isInf .S a = false →
        ∃ v, widen c a = ⟨.number v, 0#5⟩ ∧ signOf .D v = signOf .S a ∧ Reference.value .D v = Reference.value .S a

/-- 46_classify.md R190 to R192: FCLASS in both formats hands back the vector whose bit k is the k-th class of the table,
zero-extended, and leaves fflags, lib_flags and lib_rm alone, whenever its gate passes. -/
def Obligations.ClassifyDeliversTheClassTable : Prop :=
  ∀ fmt rd rs1 (s : State), GatePasses s.build.classifyGated s →
    ∃ vec : BitVec 10, (∀ k < 10, vec.getLsbD k = (Reference.classes s.build fmt (readPort fmt rs1 s)).getD k false)
      ∧ Reference.DeliversInt (Reference.classInstr fmt rd rs1) rd ⟨vec.zeroExtend 64, 0#5⟩ s.libRm s.libFlags s

/-- 46_classify.md R193: exactly one class bit is set for every pattern, and the result is the vector with every higher bit 0; it
depends on the pattern and SNAN_BIT_IS_ONE only, on nothing else of the state; and FCLASS never writes fflags, lib_flags or lib_rm. -/
def Obligations.ExactlyOneClassBitIsSet : Prop :=
  (∀ c fmt (v : Pattern fmt), ∃ k < 10, classify c fmt v = BitVec.twoPow 10 k)
    ∧ (∀ fmt rd rs1 (s : State), GatePasses s.build.classifyGated s →
        ∃ t, exec (Reference.classInstr fmt rd rs1) s = .next t
          ∧ ∃ v, t.outcomes = .int v :: s.outcomes ∧ v.toNat = (classify s.build fmt (readPort fmt rs1 s)).toNat)
    ∧ (∀ c c' fmt (v : Pattern fmt), c.snanBitIsOne = c'.snanBitIsOne → classify c fmt v = classify c' fmt v)
    ∧ ∀ fmt rd rs1 (s t : State), exec (Reference.classInstr fmt rd rs1) s = .next t →
        t.fflags = s.fflags ∧ t.libFlags = s.libFlags ∧ t.libRm = s.libRm

/-- 42_fma.md R140: a variant equals FMADD on the flipped operands, in result and flags, NaN inputs included; and the fused form differs
from a multiply and then an add on the rule's own counterexample. -/
def Obligations.FusedVariantsAreFmaddOnFlippedOperands : Prop :=
  (∀ fmt negProduct negAddend rd rs1 rs2 rs3 rm (s s' t : State),
      exec (Reference.fusedInstr fmt negProduct negAddend rd rs1 rs2 rs3 rm) s = .next t →
      s'.build = s.build → s'.frm = s.frm → s'.fpEnabled = s.fpEnabled → s'.fflags = s.fflags → s'.draws = s.draws →
      readPort fmt rs1 s' = (if negProduct then Machine.flip fmt (readPort fmt rs1 s) else readPort fmt rs1 s) →
      readPort fmt rs2 s' = readPort fmt rs2 s →
      readPort fmt rs3 s' = (if negAddend then Machine.flip fmt (readPort fmt rs3 s) else readPort fmt rs3 s) →
      ∃ t' o, exec (Reference.fusedInstr fmt false false rd rs1 rs2 rs3 rm) s' = .next t'
        ∧ t.outcomes = o :: s.outcomes ∧ t'.outcomes = o :: s'.outcomes ∧ t'.fflags = t.fflags)
    ∧ fma Config.taken .S 0x3F800001#32 0x3F800001#32 0xBF800002#32 .rne = ⟨.number 0x28800000#32, 0#5⟩
    ∧ mul Config.taken .S 0x3F800001#32 0x3F800001#32 .rne = ⟨.number 0x3F800002#32, 0b00001#5⟩
    ∧ add Config.taken .S 0x3F800002#32 0xBF800002#32 .rne = ⟨.number 0x00000000#32, 0#5⟩

/-- 45_convert.md R189: integers within the significand's range go to float and back unchanged and without flags in every direction,
and so does every non-NaN single through double. -/
def Obligations.ConversionsRoundTrip : Prop :=
  (∀ c fmt (ty : IntType) (k : ℤ) dir, |k| ≤ 2 ^ precision fmt → ty.min ≤ k → k ≤ ty.max →
      ∃ v, i2f c fmt ty (BitVec.ofInt 64 k) dir = ⟨.number v, 0#5⟩ ∧ floatToInt fmt ty v dir = ⟨k, 0#5⟩)
    ∧ ∀ c (a : Pattern .S), isNaN .S a = false →
        ∃ v, widen c a = ⟨.number v, 0#5⟩ ∧ ∀ dir, narrow c v dir = ⟨.number a, 0#5⟩

/-! ## What the machine and `Reference` share -/

/-- 41_ieee_numerics.md R102, over the fields of R101: for every pattern of either format, the fields are the bits R101 lists; a NaN has
exponent all ones and a fraction that is not 0; with SNAN_BIT_IS_ONE = false, the value taken, it is quiet iff the quiet bit, v[22] for
S and v[51] for D, is 1, and signaling iff it is 0; with SNAN_BIT_IS_ONE = true the reverse. -/
def Obligations.NaNKindsByExponentFractionAndQuietBit : Prop :=
  Config.taken.snanBitIsOne = false
    ∧ (∀ (c : Config) (v : BitVec 32),
        signOf .S v = v.getLsbD 31 ∧ expOf .S v = (v.extractLsb' 23 8).toNat ∧ fracOf .S v = (v.extractLsb' 0 23).toNat
        ∧ (isNaN .S v = true ↔ v.extractLsb' 23 8 = 0xFF#8 ∧ v.extractLsb' 0 23 ≠ 0#23)
        ∧ (isQNaN { c with snanBitIsOne := false } .S v = true ↔ isNaN .S v = true ∧ v.getLsbD 22 = true)
        ∧ (isSNaN { c with snanBitIsOne := false } .S v = true ↔ isNaN .S v = true ∧ v.getLsbD 22 = false)
        ∧ (isQNaN { c with snanBitIsOne := true } .S v = true ↔ isNaN .S v = true ∧ v.getLsbD 22 = false)
        ∧ (isSNaN { c with snanBitIsOne := true } .S v = true ↔ isNaN .S v = true ∧ v.getLsbD 22 = true))
    ∧ ∀ (c : Config) (v : BitVec 64),
        signOf .D v = v.getLsbD 63 ∧ expOf .D v = (v.extractLsb' 52 11).toNat ∧ fracOf .D v = (v.extractLsb' 0 52).toNat
        ∧ (isNaN .D v = true ↔ v.extractLsb' 52 11 = 0x7FF#11 ∧ v.extractLsb' 0 52 ≠ 0#52)
        ∧ (isQNaN { c with snanBitIsOne := false } .D v = true ↔ isNaN .D v = true ∧ v.getLsbD 51 = true)
        ∧ (isSNaN { c with snanBitIsOne := false } .D v = true ↔ isNaN .D v = true ∧ v.getLsbD 51 = false)
        ∧ (isQNaN { c with snanBitIsOne := true } .D v = true ↔ isNaN .D v = true ∧ v.getLsbD 51 = false)
        ∧ (isSNaN { c with snanBitIsOne := true } .D v = true ↔ isNaN .D v = true ∧ v.getLsbD 51 = true)

/-- 45_convert.md R169: the saturation limits as numbers, and what each becomes on the integer result port, at both widths for W and WU
(the upper half of a register with XLEN = 32 is 0, log entry 13). -/
def Obligations.SaturationLimitsAreTheTablesNumbers : Prop :=
  IntType.w.max = 2147483647 ∧ IntType.w.min = -2147483648
    ∧ IntType.wu.max = 4294967295 ∧ IntType.wu.min = 0
    ∧ IntType.l.max = 9223372036854775807 ∧ IntType.l.min = -9223372036854775808
    ∧ IntType.lu.max = 18446744073709551615 ∧ IntType.lu.min = 0
    ∧ intResult .rv64 .w IntType.w.max = 0x7FFFFFFF#64 ∧ intResult .rv64 .w IntType.w.min = 0xFFFFFFFF80000000#64
    ∧ intResult .rv64 .wu IntType.wu.max = 0xFFFFFFFFFFFFFFFF#64 ∧ intResult .rv64 .wu IntType.wu.min = 0#64
    ∧ intResult .rv64 .l IntType.l.max = 0x7FFFFFFFFFFFFFFF#64 ∧ intResult .rv64 .l IntType.l.min = 0x8000000000000000#64
    ∧ intResult .rv64 .lu IntType.lu.max = 0xFFFFFFFFFFFFFFFF#64 ∧ intResult .rv64 .lu IntType.lu.min = 0#64
    ∧ intResult .rv32 .w IntType.w.max = 0x7FFFFFFF#64 ∧ intResult .rv32 .w IntType.w.min = 0x80000000#64
    ∧ intResult .rv32 .wu IntType.wu.max = 0xFFFFFFFF#64 ∧ intResult .rv32 .wu IntType.wu.min = 0#64
end

