-- ==== Sys2Proof/Laws/State.lean ====
section
/-! SUPPORT. What each update of the state does to each field: one lemma per field per update. -/

namespace Sys2Proof.Machine

/-! ## setLibRm -/

@[simp] theorem setLibRm_build (dir : Directive) (s : State) : (setLibRm dir s).build = s.build := rfl
@[simp] theorem setLibRm_frm (dir : Directive) (s : State) : (setLibRm dir s).frm = s.frm := rfl
@[simp] theorem setLibRm_fflags (dir : Directive) (s : State) : (setLibRm dir s).fflags = s.fflags := rfl
@[simp] theorem setLibRm_fpEnabled (dir : Directive) (s : State) : (setLibRm dir s).fpEnabled = s.fpEnabled := rfl
@[simp] theorem setLibRm_libFlags (dir : Directive) (s : State) : (setLibRm dir s).libFlags = s.libFlags := rfl
@[simp] theorem setLibRm_libRm (dir : Directive) (s : State) : (setLibRm dir s).libRm = dir := rfl
@[simp] theorem setLibRm_f (dir : Directive) (s : State) : (setLibRm dir s).f = s.f := rfl
@[simp] theorem setLibRm_x (dir : Directive) (s : State) : (setLibRm dir s).x = s.x := rfl
@[simp] theorem setLibRm_inputs (dir : Directive) (s : State) : (setLibRm dir s).inputs = s.inputs := rfl
@[simp] theorem setLibRm_outcomes (dir : Directive) (s : State) : (setLibRm dir s).outcomes = s.outcomes := rfl
@[simp] theorem setLibRm_draws (dir : Directive) (s : State) : (setLibRm dir s).draws = s.draws := rfl

/-! ## clearLibFlags -/

@[simp] theorem clearLibFlags_build (s : State) : (clearLibFlags s).build = s.build := rfl
@[simp] theorem clearLibFlags_frm (s : State) : (clearLibFlags s).frm = s.frm := rfl
@[simp] theorem clearLibFlags_fflags (s : State) : (clearLibFlags s).fflags = s.fflags := rfl
@[simp] theorem clearLibFlags_fpEnabled (s : State) : (clearLibFlags s).fpEnabled = s.fpEnabled := rfl
@[simp] theorem clearLibFlags_libFlags (s : State) : (clearLibFlags s).libFlags = 0#5 := rfl
@[simp] theorem clearLibFlags_libRm (s : State) : (clearLibFlags s).libRm = s.libRm := rfl
@[simp] theorem clearLibFlags_f (s : State) : (clearLibFlags s).f = s.f := rfl
@[simp] theorem clearLibFlags_x (s : State) : (clearLibFlags s).x = s.x := rfl
@[simp] theorem clearLibFlags_inputs (s : State) : (clearLibFlags s).inputs = s.inputs := rfl
@[simp] theorem clearLibFlags_outcomes (s : State) : (clearLibFlags s).outcomes = s.outcomes := rfl
@[simp] theorem clearLibFlags_draws (s : State) : (clearLibFlags s).draws = s.draws := rfl

/-! ## raiseLibFlags -/

@[simp] theorem raiseLibFlags_build (raised : FlagSet) (s : State) : (raiseLibFlags raised s).build = s.build := rfl
@[simp] theorem raiseLibFlags_frm (raised : FlagSet) (s : State) : (raiseLibFlags raised s).frm = s.frm := rfl
@[simp] theorem raiseLibFlags_fflags (raised : FlagSet) (s : State) : (raiseLibFlags raised s).fflags = s.fflags := rfl
@[simp] theorem raiseLibFlags_fpEnabled (raised : FlagSet) (s : State) : (raiseLibFlags raised s).fpEnabled = s.fpEnabled := rfl
@[simp] theorem raiseLibFlags_libFlags (raised : FlagSet) (s : State) : (raiseLibFlags raised s).libFlags = s.libFlags ||| raised := rfl
@[simp] theorem raiseLibFlags_libRm (raised : FlagSet) (s : State) : (raiseLibFlags raised s).libRm = s.libRm := rfl
@[simp] theorem raiseLibFlags_f (raised : FlagSet) (s : State) : (raiseLibFlags raised s).f = s.f := rfl
@[simp] theorem raiseLibFlags_x (raised : FlagSet) (s : State) : (raiseLibFlags raised s).x = s.x := rfl
@[simp] theorem raiseLibFlags_inputs (raised : FlagSet) (s : State) : (raiseLibFlags raised s).inputs = s.inputs := rfl
@[simp] theorem raiseLibFlags_outcomes (raised : FlagSet) (s : State) : (raiseLibFlags raised s).outcomes = s.outcomes := rfl
@[simp] theorem raiseLibFlags_draws (raised : FlagSet) (s : State) : (raiseLibFlags raised s).draws = s.draws := rfl

/-! ## drain -/

@[simp] theorem drain_build (s : State) : (drain s).build = s.build := rfl
@[simp] theorem drain_frm (s : State) : (drain s).frm = s.frm := rfl
@[simp] theorem drain_fflags (s : State) : (drain s).fflags = s.fflags ||| translate s.libFlags := rfl
@[simp] theorem drain_fpEnabled (s : State) : (drain s).fpEnabled = s.fpEnabled := rfl
@[simp] theorem drain_libFlags (s : State) : (drain s).libFlags = 0#5 := rfl
@[simp] theorem drain_libRm (s : State) : (drain s).libRm = s.libRm := rfl
@[simp] theorem drain_f (s : State) : (drain s).f = s.f := rfl
@[simp] theorem drain_x (s : State) : (drain s).x = s.x := rfl
@[simp] theorem drain_inputs (s : State) : (drain s).inputs = s.inputs := rfl
@[simp] theorem drain_outcomes (s : State) : (drain s).outcomes = s.outcomes := rfl
@[simp] theorem drain_draws (s : State) : (drain s).draws = s.draws := rfl

/-! ## accumulate -/

@[simp] theorem accumulate_build (raised : FlagSet) (s : State) : (accumulate raised s).build = s.build := rfl
@[simp] theorem accumulate_frm (raised : FlagSet) (s : State) : (accumulate raised s).frm = s.frm := rfl
@[simp] theorem accumulate_fpEnabled (raised : FlagSet) (s : State) : (accumulate raised s).fpEnabled = s.fpEnabled := rfl
@[simp] theorem accumulate_libFlags (raised : FlagSet) (s : State) : (accumulate raised s).libFlags = 0#5 := rfl
@[simp] theorem accumulate_libRm (raised : FlagSet) (s : State) : (accumulate raised s).libRm = s.libRm := rfl
@[simp] theorem accumulate_f (raised : FlagSet) (s : State) : (accumulate raised s).f = s.f := rfl
@[simp] theorem accumulate_x (raised : FlagSet) (s : State) : (accumulate raised s).x = s.x := rfl
@[simp] theorem accumulate_inputs (raised : FlagSet) (s : State) : (accumulate raised s).inputs = s.inputs := rfl
@[simp] theorem accumulate_outcomes (raised : FlagSet) (s : State) : (accumulate raised s).outcomes = s.outcomes := rfl
@[simp] theorem accumulate_draws (raised : FlagSet) (s : State) : (accumulate raised s).draws = s.draws := rfl

/-! ## record -/

@[simp] theorem record_build (o : OpOutcome) (s : State) : (record o s).build = s.build := rfl
@[simp] theorem record_frm (o : OpOutcome) (s : State) : (record o s).frm = s.frm := rfl
@[simp] theorem record_fflags (o : OpOutcome) (s : State) : (record o s).fflags = s.fflags := rfl
@[simp] theorem record_fpEnabled (o : OpOutcome) (s : State) : (record o s).fpEnabled = s.fpEnabled := rfl
@[simp] theorem record_libFlags (o : OpOutcome) (s : State) : (record o s).libFlags = s.libFlags := rfl
@[simp] theorem record_libRm (o : OpOutcome) (s : State) : (record o s).libRm = s.libRm := rfl
@[simp] theorem record_f (o : OpOutcome) (s : State) : (record o s).f = s.f := rfl
@[simp] theorem record_x (o : OpOutcome) (s : State) : (record o s).x = s.x := rfl
@[simp] theorem record_inputs (o : OpOutcome) (s : State) : (record o s).inputs = s.inputs := rfl
@[simp] theorem record_outcomes (o : OpOutcome) (s : State) : (record o s).outcomes = o :: s.outcomes := rfl
@[simp] theorem record_draws (o : OpOutcome) (s : State) : (record o s).draws = s.draws := rfl

/-! ## takeTrap -/

@[simp] theorem takeTrap_build (s : State) : (takeTrap s).build = s.build := rfl
@[simp] theorem takeTrap_frm (s : State) : (takeTrap s).frm = s.frm := rfl
@[simp] theorem takeTrap_fflags (s : State) : (takeTrap s).fflags = s.fflags := rfl
@[simp] theorem takeTrap_fpEnabled (s : State) : (takeTrap s).fpEnabled = s.fpEnabled := rfl
@[simp] theorem takeTrap_libFlags (s : State) : (takeTrap s).libFlags = s.libFlags := rfl
@[simp] theorem takeTrap_libRm (s : State) : (takeTrap s).libRm = s.libRm := rfl
@[simp] theorem takeTrap_f (s : State) : (takeTrap s).f = s.f := rfl
@[simp] theorem takeTrap_x (s : State) : (takeTrap s).x = s.x := rfl
@[simp] theorem takeTrap_inputs (s : State) : (takeTrap s).inputs = s.inputs := rfl
@[simp] theorem takeTrap_outcomes (s : State) : (takeTrap s).outcomes = .trap .illegalInstruction :: s.outcomes := rfl
@[simp] theorem takeTrap_draws (s : State) : (takeTrap s).draws = s.draws := rfl

/-! ## writeF -/

@[simp] theorem writeF_build (r : Reg) (v : FpWord) (s : State) : (writeF r v s).build = s.build := rfl
@[simp] theorem writeF_frm (r : Reg) (v : FpWord) (s : State) : (writeF r v s).frm = s.frm := rfl
@[simp] theorem writeF_fflags (r : Reg) (v : FpWord) (s : State) : (writeF r v s).fflags = s.fflags := rfl
@[simp] theorem writeF_fpEnabled (r : Reg) (v : FpWord) (s : State) : (writeF r v s).fpEnabled = s.fpEnabled := rfl
@[simp] theorem writeF_libFlags (r : Reg) (v : FpWord) (s : State) : (writeF r v s).libFlags = s.libFlags := rfl
@[simp] theorem writeF_libRm (r : Reg) (v : FpWord) (s : State) : (writeF r v s).libRm = s.libRm := rfl
@[simp] theorem writeF_f (r : Reg) (v : FpWord) (s : State) : (writeF r v s).f = s.f.set r.toNat v r.isLt := rfl
@[simp] theorem writeF_x (r : Reg) (v : FpWord) (s : State) : (writeF r v s).x = s.x := rfl
@[simp] theorem writeF_inputs (r : Reg) (v : FpWord) (s : State) : (writeF r v s).inputs = s.inputs := rfl
@[simp] theorem writeF_outcomes (r : Reg) (v : FpWord) (s : State) : (writeF r v s).outcomes = s.outcomes := rfl
@[simp] theorem writeF_draws (r : Reg) (v : FpWord) (s : State) : (writeF r v s).draws = s.draws := rfl

/-! ## writeX -/

@[simp] theorem writeX_build (r : Reg) (v : XWord) (s : State) : (writeX r v s).build = s.build := by unfold writeX; split <;> rfl
@[simp] theorem writeX_frm (r : Reg) (v : XWord) (s : State) : (writeX r v s).frm = s.frm := by unfold writeX; split <;> rfl
@[simp] theorem writeX_fflags (r : Reg) (v : XWord) (s : State) : (writeX r v s).fflags = s.fflags := by unfold writeX; split <;> rfl
@[simp] theorem writeX_fpEnabled (r : Reg) (v : XWord) (s : State) : (writeX r v s).fpEnabled = s.fpEnabled := by unfold writeX; split <;> rfl
@[simp] theorem writeX_libFlags (r : Reg) (v : XWord) (s : State) : (writeX r v s).libFlags = s.libFlags := by unfold writeX; split <;> rfl
@[simp] theorem writeX_libRm (r : Reg) (v : XWord) (s : State) : (writeX r v s).libRm = s.libRm := by unfold writeX; split <;> rfl
@[simp] theorem writeX_f (r : Reg) (v : XWord) (s : State) : (writeX r v s).f = s.f := by unfold writeX; split <;> rfl
@[simp] theorem writeX_inputs (r : Reg) (v : XWord) (s : State) : (writeX r v s).inputs = s.inputs := by unfold writeX; split <;> rfl
@[simp] theorem writeX_outcomes (r : Reg) (v : XWord) (s : State) : (writeX r v s).outcomes = s.outcomes := by unfold writeX; split <;> rfl
@[simp] theorem writeX_draws (r : Reg) (v : XWord) (s : State) : (writeX r v s).draws = s.draws := by unfold writeX; split <;> rfl

/-! ## countDraw -/

@[simp] theorem countDraw_build (s : State) : (countDraw s).build = s.build := by unfold countDraw; split <;> rfl
@[simp] theorem countDraw_frm (s : State) : (countDraw s).frm = s.frm := by unfold countDraw; split <;> rfl
@[simp] theorem countDraw_fflags (s : State) : (countDraw s).fflags = s.fflags := by unfold countDraw; split <;> rfl
@[simp] theorem countDraw_fpEnabled (s : State) : (countDraw s).fpEnabled = s.fpEnabled := by unfold countDraw; split <;> rfl
@[simp] theorem countDraw_libFlags (s : State) : (countDraw s).libFlags = s.libFlags := by unfold countDraw; split <;> rfl
@[simp] theorem countDraw_libRm (s : State) : (countDraw s).libRm = s.libRm := by unfold countDraw; split <;> rfl
@[simp] theorem countDraw_f (s : State) : (countDraw s).f = s.f := by unfold countDraw; split <;> rfl
@[simp] theorem countDraw_x (s : State) : (countDraw s).x = s.x := by unfold countDraw; split <;> rfl
@[simp] theorem countDraw_inputs (s : State) : (countDraw s).inputs = s.inputs := by unfold countDraw; split <;> rfl
@[simp] theorem countDraw_outcomes (s : State) : (countDraw s).outcomes = s.outcomes := by unfold countDraw; split <;> rfl

/-! ## completeFp -/

@[simp] theorem completeFp_build (fmt : Fmt) (rd : Reg) (v : Pattern fmt) (s : State) : (completeFp fmt rd v s).build = s.build := rfl
@[simp] theorem completeFp_frm (fmt : Fmt) (rd : Reg) (v : Pattern fmt) (s : State) : (completeFp fmt rd v s).frm = s.frm := rfl
@[simp] theorem completeFp_fflags (fmt : Fmt) (rd : Reg) (v : Pattern fmt) (s : State) : (completeFp fmt rd v s).fflags = s.fflags := rfl
@[simp] theorem completeFp_fpEnabled (fmt : Fmt) (rd : Reg) (v : Pattern fmt) (s : State) : (completeFp fmt rd v s).fpEnabled = s.fpEnabled := rfl
@[simp] theorem completeFp_libFlags (fmt : Fmt) (rd : Reg) (v : Pattern fmt) (s : State) : (completeFp fmt rd v s).libFlags = s.libFlags := rfl
@[simp] theorem completeFp_libRm (fmt : Fmt) (rd : Reg) (v : Pattern fmt) (s : State) : (completeFp fmt rd v s).libRm = s.libRm := rfl
@[simp] theorem completeFp_f (fmt : Fmt) (rd : Reg) (v : Pattern fmt) (s : State) : (completeFp fmt rd v s).f = s.f.set rd.toNat (toFpWord s.build.f32Box fmt v) rd.isLt := rfl
@[simp] theorem completeFp_x (fmt : Fmt) (rd : Reg) (v : Pattern fmt) (s : State) : (completeFp fmt rd v s).x = s.x := rfl
@[simp] theorem completeFp_inputs (fmt : Fmt) (rd : Reg) (v : Pattern fmt) (s : State) : (completeFp fmt rd v s).inputs = s.inputs := rfl
@[simp] theorem completeFp_outcomes (fmt : Fmt) (rd : Reg) (v : Pattern fmt) (s : State) : (completeFp fmt rd v s).outcomes = fpOutcome fmt v :: s.outcomes := rfl
@[simp] theorem completeFp_draws (fmt : Fmt) (rd : Reg) (v : Pattern fmt) (s : State) : (completeFp fmt rd v s).draws = s.draws := rfl

/-! ## completeInt -/

@[simp] theorem completeInt_build (rd : Reg) (v : XWord) (s : State) : (completeInt rd v s).build = s.build := by simp [completeInt]
@[simp] theorem completeInt_frm (rd : Reg) (v : XWord) (s : State) : (completeInt rd v s).frm = s.frm := by simp [completeInt]
@[simp] theorem completeInt_fflags (rd : Reg) (v : XWord) (s : State) : (completeInt rd v s).fflags = s.fflags := by simp [completeInt]
@[simp] theorem completeInt_fpEnabled (rd : Reg) (v : XWord) (s : State) : (completeInt rd v s).fpEnabled = s.fpEnabled := by simp [completeInt]
@[simp] theorem completeInt_libFlags (rd : Reg) (v : XWord) (s : State) : (completeInt rd v s).libFlags = s.libFlags := by simp [completeInt]
@[simp] theorem completeInt_libRm (rd : Reg) (v : XWord) (s : State) : (completeInt rd v s).libRm = s.libRm := by simp [completeInt]
@[simp] theorem completeInt_f (rd : Reg) (v : XWord) (s : State) : (completeInt rd v s).f = s.f := by simp [completeInt]
@[simp] theorem completeInt_x (rd : Reg) (v : XWord) (s : State) : (completeInt rd v s).x = (writeX rd v s).x := by simp [completeInt]
@[simp] theorem completeInt_inputs (rd : Reg) (v : XWord) (s : State) : (completeInt rd v s).inputs = s.inputs := by simp [completeInt]
@[simp] theorem completeInt_outcomes (rd : Reg) (v : XWord) (s : State) : (completeInt rd v s).outcomes = .int v :: s.outcomes := by simp [completeInt]
@[simp] theorem completeInt_draws (rd : Reg) (v : XWord) (s : State) : (completeInt rd v s).draws = s.draws := by simp [completeInt]

/-! ## writeFrm -/

@[simp] theorem writeFrm_build (v : BitVec 3) (s : State) : (writeFrm v s).build = s.build := rfl
@[simp] theorem writeFrm_frm (v : BitVec 3) (s : State) : (writeFrm v s).frm = v := rfl
@[simp] theorem writeFrm_fflags (v : BitVec 3) (s : State) : (writeFrm v s).fflags = s.fflags := rfl
@[simp] theorem writeFrm_fpEnabled (v : BitVec 3) (s : State) : (writeFrm v s).fpEnabled = s.fpEnabled := rfl
@[simp] theorem writeFrm_libFlags (v : BitVec 3) (s : State) : (writeFrm v s).libFlags = s.libFlags := rfl
@[simp] theorem writeFrm_libRm (v : BitVec 3) (s : State) : (writeFrm v s).libRm = s.libRm := rfl
@[simp] theorem writeFrm_f (v : BitVec 3) (s : State) : (writeFrm v s).f = s.f := rfl
@[simp] theorem writeFrm_x (v : BitVec 3) (s : State) : (writeFrm v s).x = s.x := rfl
@[simp] theorem writeFrm_inputs (v : BitVec 3) (s : State) : (writeFrm v s).inputs = s.inputs := rfl
@[simp] theorem writeFrm_outcomes (v : BitVec 3) (s : State) : (writeFrm v s).outcomes = s.outcomes := rfl
@[simp] theorem writeFrm_draws (v : BitVec 3) (s : State) : (writeFrm v s).draws = s.draws := rfl

/-! ## writeFflags -/

@[simp] theorem writeFflags_build (v : FlagSet) (s : State) : (writeFflags v s).build = s.build := rfl
@[simp] theorem writeFflags_frm (v : FlagSet) (s : State) : (writeFflags v s).frm = s.frm := rfl
@[simp] theorem writeFflags_fflags (v : FlagSet) (s : State) : (writeFflags v s).fflags = v := rfl
@[simp] theorem writeFflags_fpEnabled (v : FlagSet) (s : State) : (writeFflags v s).fpEnabled = s.fpEnabled := rfl
@[simp] theorem writeFflags_libFlags (v : FlagSet) (s : State) : (writeFflags v s).libFlags = s.libFlags := rfl
@[simp] theorem writeFflags_libRm (v : FlagSet) (s : State) : (writeFflags v s).libRm = s.libRm := rfl
@[simp] theorem writeFflags_f (v : FlagSet) (s : State) : (writeFflags v s).f = s.f := rfl
@[simp] theorem writeFflags_x (v : FlagSet) (s : State) : (writeFflags v s).x = s.x := rfl
@[simp] theorem writeFflags_inputs (v : FlagSet) (s : State) : (writeFflags v s).inputs = s.inputs := rfl
@[simp] theorem writeFflags_outcomes (v : FlagSet) (s : State) : (writeFflags v s).outcomes = s.outcomes := rfl
@[simp] theorem writeFflags_draws (v : FlagSet) (s : State) : (writeFflags v s).draws = s.draws := rfl

/-! ## setFpEnabled -/

@[simp] theorem setFpEnabled_build (on : Bool) (s : State) : (setFpEnabled on s).build = s.build := rfl
@[simp] theorem setFpEnabled_frm (on : Bool) (s : State) : (setFpEnabled on s).frm = s.frm := rfl
@[simp] theorem setFpEnabled_fflags (on : Bool) (s : State) : (setFpEnabled on s).fflags = s.fflags := rfl
@[simp] theorem setFpEnabled_fpEnabled (on : Bool) (s : State) : (setFpEnabled on s).fpEnabled = on := rfl
@[simp] theorem setFpEnabled_libFlags (on : Bool) (s : State) : (setFpEnabled on s).libFlags = s.libFlags := rfl
@[simp] theorem setFpEnabled_libRm (on : Bool) (s : State) : (setFpEnabled on s).libRm = s.libRm := rfl
@[simp] theorem setFpEnabled_f (on : Bool) (s : State) : (setFpEnabled on s).f = s.f := rfl
@[simp] theorem setFpEnabled_x (on : Bool) (s : State) : (setFpEnabled on s).x = s.x := rfl
@[simp] theorem setFpEnabled_inputs (on : Bool) (s : State) : (setFpEnabled on s).inputs = s.inputs := rfl
@[simp] theorem setFpEnabled_outcomes (on : Bool) (s : State) : (setFpEnabled on s).outcomes = s.outcomes := rfl
@[simp] theorem setFpEnabled_draws (on : Bool) (s : State) : (setFpEnabled on s).draws = s.draws := rfl

/-! ## resetBlock -/

@[simp] theorem resetBlock_build (s : State) : (resetBlock s).build = s.build := rfl
@[simp] theorem resetBlock_frm (s : State) : (resetBlock s).frm = 0#3 := rfl
@[simp] theorem resetBlock_fflags (s : State) : (resetBlock s).fflags = 0#5 := rfl
@[simp] theorem resetBlock_fpEnabled (s : State) : (resetBlock s).fpEnabled = s.build.resetFpEnabled := rfl
@[simp] theorem resetBlock_libFlags (s : State) : (resetBlock s).libFlags = 0#5 := rfl
@[simp] theorem resetBlock_libRm (s : State) : (resetBlock s).libRm = .rne := rfl
@[simp] theorem resetBlock_f (s : State) : (resetBlock s).f = s.f := rfl
@[simp] theorem resetBlock_x (s : State) : (resetBlock s).x = s.x := rfl
@[simp] theorem resetBlock_inputs (s : State) : (resetBlock s).inputs = s.inputs := rfl
@[simp] theorem resetBlock_outcomes (s : State) : (resetBlock s).outcomes = s.outcomes := rfl
@[simp] theorem resetBlock_draws (s : State) : (resetBlock s).draws = s.draws := rfl

/-! ## dropInput -/

@[simp] theorem dropInput_build (s : State) : (dropInput s).build = s.build := rfl
@[simp] theorem dropInput_frm (s : State) : (dropInput s).frm = s.frm := rfl
@[simp] theorem dropInput_fflags (s : State) : (dropInput s).fflags = s.fflags := rfl
@[simp] theorem dropInput_fpEnabled (s : State) : (dropInput s).fpEnabled = s.fpEnabled := rfl
@[simp] theorem dropInput_libFlags (s : State) : (dropInput s).libFlags = s.libFlags := rfl
@[simp] theorem dropInput_libRm (s : State) : (dropInput s).libRm = s.libRm := rfl
@[simp] theorem dropInput_f (s : State) : (dropInput s).f = s.f := rfl
@[simp] theorem dropInput_x (s : State) : (dropInput s).x = s.x := rfl
@[simp] theorem dropInput_inputs (s : State) : (dropInput s).inputs = s.inputs.drop 1 := rfl
@[simp] theorem dropInput_outcomes (s : State) : (dropInput s).outcomes = s.outcomes := rfl
@[simp] theorem dropInput_draws (s : State) : (dropInput s).draws = s.draws := rfl

theorem writeX_x_zero (v : XWord) (s : State) : writeX 0#5 v s = s := by simp [writeX]

theorem writeX_x_of_ne {r : Reg} (h : r ≠ 0#5) (v : XWord) (s : State) :
    (writeX r v s).x = s.x.set r.toNat (truncXlen s.build.xlen v) r.isLt := by simp [writeX, h]

theorem countDraw_draws_le (s : State) : s.draws ≤ (countDraw s).draws := by
  unfold countDraw; split <;> simp

theorem countDraw_canonical {s : State} (h : s.build.nanMode = .canonical) : countDraw s = s := by simp [countDraw, h]

theorem countDraw_propagate {s : State} (h : s.build.nanMode = .propagate) :
    countDraw s = { s with draws := s.draws + 1 } := by simp [countDraw, h]

end Sys2Proof.Machine
end

