-- ==== Sys2Proof/Laws/Ops.lean ====
section
/-! SUPPORT. What each shared operation can do, said once: the register files, the Translator, the Resolver, the hand-back of a
result, and the three shapes of an operation. -/

namespace Sys2Proof.Machine

/-! ## Register files -/

@[simp] theorem readF_writeF_same (r : Reg) (v : FpWord) (s : State) : readF r (writeF r v s) = v := by
  simp [readF, writeF, Vector.get_eq_getElem]

theorem readF_writeF_of_ne {r q : Reg} (h : q ≠ r) (v : FpWord) (s : State) : readF q (writeF r v s) = readF q s := by
  have hn : r.toNat ≠ q.toNat := fun e => h (BitVec.eq_of_toNat_eq e.symm)
  simp [readF, writeF, Vector.get_eq_getElem, hn]

@[simp] theorem readX_zero (s : State) : readX 0#5 s = 0#64 := by simp [readX]

theorem readX_writeX_same {r : Reg} (h : r ≠ 0#5) (v : XWord) (s : State) :
    readX r (writeX r v s) = truncXlen s.build.xlen v := by
  simp [readX, writeX, h, Vector.get_eq_getElem]

theorem readX_writeX_of_ne {r q : Reg} (h : q ≠ r) (v : XWord) (s : State) : readX q (writeX r v s) = readX q s := by
  have hn : r.toNat ≠ q.toNat := fun e => h (BitVec.eq_of_toNat_eq e.symm)
  unfold readX writeX
  split
  · rfl
  · split
    · rfl
    · simp [Vector.get_eq_getElem, hn]

/-- Reading a register looks at nothing but the register file. -/
theorem readF_congr {s t : State} (h : t.f = s.f) (r : Reg) : readF r t = readF r s := by simp [readF, h]

theorem readX_congr {s t : State} (h : t.x = s.x) (r : Reg) : readX r t = readX r s := by simp [readX, h]

/-- An operand port looks at nothing but the FP register file and the boxing mode. -/
theorem readPort_congr {s t : State} (hb : t.build = s.build) (hf : t.f = s.f) (fmt : Fmt) (r : Reg) :
    readPort fmt r t = readPort fmt r s := by
  cases fmt <;> simp [readPort, readF, hb, hf]

/-- A concatenation as a number. -/
theorem toNat_append_eq {m n : Nat} (a : BitVec m) (b : BitVec n) : (a ++ b).toNat = a.toNat * 2 ^ n + b.toNat := by
  rw [BitVec.toNat_append, ← Nat.shiftLeft_add_eq_or_of_lt b.isLt, Nat.shiftLeft_eq]

theorem extractLsb'_append_high (a b : BitVec 32) : (a ++ b).extractLsb' 32 32 = a := by
  apply BitVec.eq_of_toNat_eq
  rw [BitVec.extractLsb'_toNat, toNat_append_eq, Nat.shiftRight_eq_div_pow]
  omega

theorem extractLsb'_append_low (a b : BitVec 32) : (a ++ b).extractLsb' 0 32 = b := by
  apply BitVec.eq_of_toNat_eq
  rw [BitVec.extractLsb'_toNat, toNat_append_eq, Nat.shiftRight_eq_div_pow]
  omega

/-- Under the boxing adapter a boxed single reads back (10_state.md R34). -/
@[simp] theorem readS_writeS (b : BoxMode) (v : BitVec 32) : readS b (writeS b v) = v := by
  cases b
  · have hi : (writeS .nanBox v).extractLsb' 32 32 = 0xFFFFFFFF#32 := extractLsb'_append_high _ _
    have lo : (writeS .nanBox v).extractLsb' 0 32 = v := extractLsb'_append_low _ _
    simp [readS, hi, lo]
  · apply BitVec.eq_of_toNat_eq
    simp [readS, writeS, BitVec.extractLsb'_toNat]
    omega

/-! ## Translator -/

/-- lib_flags has the order of fflags, so the translation is the identity (40_control_path.md R89). -/
@[simp] theorem translate_eq (raised : FlagSet) : translate raised = raised := by
  revert raised; decide

@[simp] theorem accumulate_fflags (raised : FlagSet) (s : State) :
    (accumulate raised s).fflags = s.fflags ||| raised := by
  simp [accumulate]

/-- Nothing of lib_flags before the primitive survives (40_control_path.md R91). -/
theorem accumulate_eq (raised : FlagSet) (s : State) :
    accumulate raised s = { s with fflags := s.fflags ||| raised, libFlags := 0#5 } := by
  simp [accumulate, drain, raiseLibFlags, clearLibFlags]

/-! ## Handing back -/

theorem finishFp_number {fmt : Fmt} {rd : Reg} {p : Raised (FpResult fmt)} {v : Pattern fmt} (h : p.result = .number v)
    (s : State) : finishFp fmt rd p s = completeFp fmt rd v (accumulate p.raised s) := by
  simp [finishFp, deliverFp, h]

theorem finishFp_nan {fmt : Fmt} {rd : Reg} {p : Raised (FpResult fmt)} (h : p.result = .nan) (s : State) :
    finishFp fmt rd p s =
      completeFp fmt rd (nanPattern fmt (accumulate p.raised s)) (countDraw (accumulate p.raised s)) := by
  simp [finishFp, deliverFp, h]

/-- Whatever a floating-point primitive returns, its flags are ORed in and the rest of the block's registers stay. -/
theorem finishFp_spec (fmt : Fmt) (rd : Reg) (p : Raised (FpResult fmt)) (s : State) :
    ∃ v, (finishFp fmt rd p s).outcomes = fpOutcome fmt v :: s.outcomes
      ∧ (finishFp fmt rd p s).f = s.f.set rd.toNat (toFpWord s.build.f32Box fmt v) rd.isLt
      ∧ (finishFp fmt rd p s).x = s.x
      ∧ (finishFp fmt rd p s).fflags = s.fflags ||| p.raised
      ∧ (finishFp fmt rd p s).libFlags = 0#5
      ∧ (finishFp fmt rd p s).libRm = s.libRm
      ∧ (finishFp fmt rd p s).frm = s.frm
      ∧ (finishFp fmt rd p s).fpEnabled = s.fpEnabled
      ∧ (finishFp fmt rd p s).build = s.build
      ∧ (finishFp fmt rd p s).inputs = s.inputs := by
  cases h : p.result with
  | number v => exact ⟨v, by simp [finishFp_number h]⟩
  | nan => exact ⟨nanPattern fmt (accumulate p.raised s), by simp [finishFp_nan h]⟩

theorem finishInt_eq (rd : Reg) (p : Raised XWord) (s : State) :
    finishInt rd p s = completeInt rd p.result (accumulate p.raised s) := rfl

/-! ## The shapes of an operation -/

theorem gateFails_eq_false_iff (isGated : Bool) (s : State) :
    gateFails isGated s = false ↔ s.build.gatePresent = false ∨ isGated = false ∨ s.fpEnabled = true := by
  cases hg : s.build.gatePresent <;> cases isGated <;> cases hf : s.fpEnabled <;> simp [gateFails, hg, hf]

/-- Everything a rounding-dependent operation can do. -/
theorem roundingOp_cases {rm : RoundingCode} {body : Directive → State → State} {s : State} {r : StepResult}
    (h : roundingOp rm body s = r) :
    (gateFails true s = true ∧ r = .next (takeTrap s))
      ∨ (gateFails true s = false ∧ resolve s rm = none ∧ r = .next (takeTrap s))
      ∨ ∃ dir, gateFails true s = false ∧ resolve s rm = some dir ∧ r = .next (body dir (setLibRm dir s)) := by
  subst h
  unfold roundingOp
  cases hg : gateFails true s <;> cases hr : resolve s rm <;> simp

theorem roundingOp_gate {s : State} (h : gateFails true s = true) (rm : RoundingCode) (body : Directive → State → State) :
    roundingOp rm body s = .next (takeTrap s) := by simp [roundingOp, h]

theorem roundingOp_unresolved {s : State} {rm : RoundingCode} (h : resolve s rm = none) (body : Directive → State → State) :
    roundingOp rm body s = .next (takeTrap s) := by simp [roundingOp, h]

theorem roundingOp_runs {s : State} {rm : RoundingCode} {dir : Directive} (hg : gateFails true s = false)
    (hr : resolve s rm = some dir) (body : Directive → State → State) :
    roundingOp rm body s = .next (body dir (setLibRm dir s)) := by simp [roundingOp, hg, hr]

/-- Everything an operation outside the Resolver can do. -/
theorem plainOp_cases {isGated : Bool} {body : State → State} {s : State} {r : StepResult} (h : plainOp isGated body s = r) :
    (gateFails isGated s = true ∧ r = .next (takeTrap s)) ∨ (gateFails isGated s = false ∧ r = .next (body s)) := by
  subst h
  unfold plainOp
  cases hg : gateFails isGated s <;> simp

theorem plainOp_gate {isGated : Bool} {s : State} (h : gateFails isGated s = true) (body : State → State) :
    plainOp isGated body s = .next (takeTrap s) := by simp [plainOp, h]

theorem plainOp_runs {isGated : Bool} {s : State} (h : gateFails isGated s = false) (body : State → State) :
    plainOp isGated body s = .next (body s) := by simp [plainOp, h]

theorem onRv64_rv64 {s : State} (h : s.build.xlen = .rv64) (op : State → StepResult) : onRv64 op s = op s := by
  simp [onRv64, h]

theorem onRv64_rv32 {s : State} (h : s.build.xlen = .rv32) (op : State → StepResult) :
    onRv64 op s = .refused .absentOperation := by
  simp [onRv64, h]

end Sys2Proof.Machine
end

