-- ==== Sys2Proof/Laws/Decode.lean ====
section
/-! SUPPORT. What the encoders put in each field and under each mask of the opcode table, and what each field reads back. -/

namespace Sys2Proof

open Machine

/-! ## The fields of a word of the R format (30_encoding.md R61) -/

section R
variable (f7 : BitVec 7) (rs2 rs1 : Reg) (f3 : RoundingCode) (rd : Reg)

@[simp] theorem opcodeField_encodeR : opcodeField (encodeR f7 rs2 rs1 f3 rd) = 0b1010011#7 := by
  apply BitVec.eq_of_toNat_eq
  simp only [opcodeField, encodeR, BitVec.extractLsb'_toNat, toNat_append_eq, Nat.shiftRight_eq_div_pow, BitVec.toNat_ofNat]
  omega

@[simp] theorem rdField_encodeR : rdField (encodeR f7 rs2 rs1 f3 rd) = rd := by
  apply BitVec.eq_of_toNat_eq
  simp only [rdField, encodeR, BitVec.extractLsb'_toNat, toNat_append_eq, Nat.shiftRight_eq_div_pow, BitVec.toNat_ofNat]
  omega

@[simp] theorem rmField_encodeR : rmField (encodeR f7 rs2 rs1 f3 rd) = f3 := by
  apply BitVec.eq_of_toNat_eq
  simp only [rmField, encodeR, BitVec.extractLsb'_toNat, toNat_append_eq, Nat.shiftRight_eq_div_pow, BitVec.toNat_ofNat]
  omega

@[simp] theorem rs1Field_encodeR : rs1Field (encodeR f7 rs2 rs1 f3 rd) = rs1 := by
  apply BitVec.eq_of_toNat_eq
  simp only [rs1Field, encodeR, BitVec.extractLsb'_toNat, toNat_append_eq, Nat.shiftRight_eq_div_pow, BitVec.toNat_ofNat]
  omega

@[simp] theorem rs2Field_encodeR : rs2Field (encodeR f7 rs2 rs1 f3 rd) = rs2 := by
  apply BitVec.eq_of_toNat_eq
  simp only [rs2Field, encodeR, BitVec.extractLsb'_toNat, toNat_append_eq, Nat.shiftRight_eq_div_pow, BitVec.toNat_ofNat]
  omega

@[simp] theorem funct7Field_encodeR : funct7Field (encodeR f7 rs2 rs1 f3 rd) = f7 := by
  apply BitVec.eq_of_toNat_eq
  simp only [funct7Field, encodeR, BitVec.extractLsb'_toNat, toNat_append_eq, Nat.shiftRight_eq_div_pow, BitVec.toNat_ofNat]
  omega

end R

/-! ## The fields of a word of the R4 format (30_encoding.md R62) -/

section R4
variable (op : BitVec 7) (fmt : BitVec 2) (rs3 rs2 rs1 : Reg) (rm : RoundingCode) (rd : Reg)

@[simp] theorem opcodeField_encodeR4 : opcodeField (encodeR4 op fmt rs3 rs2 rs1 rm rd) = op := by
  apply BitVec.eq_of_toNat_eq
  simp only [opcodeField, encodeR4, BitVec.extractLsb'_toNat, toNat_append_eq, Nat.shiftRight_eq_div_pow]
  omega

@[simp] theorem rdField_encodeR4 : rdField (encodeR4 op fmt rs3 rs2 rs1 rm rd) = rd := by
  apply BitVec.eq_of_toNat_eq
  simp only [rdField, encodeR4, BitVec.extractLsb'_toNat, toNat_append_eq, Nat.shiftRight_eq_div_pow]
  omega

@[simp] theorem rmField_encodeR4 : rmField (encodeR4 op fmt rs3 rs2 rs1 rm rd) = rm := by
  apply BitVec.eq_of_toNat_eq
  simp only [rmField, encodeR4, BitVec.extractLsb'_toNat, toNat_append_eq, Nat.shiftRight_eq_div_pow]
  omega

@[simp] theorem rs1Field_encodeR4 : rs1Field (encodeR4 op fmt rs3 rs2 rs1 rm rd) = rs1 := by
  apply BitVec.eq_of_toNat_eq
  simp only [rs1Field, encodeR4, BitVec.extractLsb'_toNat, toNat_append_eq, Nat.shiftRight_eq_div_pow]
  omega

@[simp] theorem rs2Field_encodeR4 : rs2Field (encodeR4 op fmt rs3 rs2 rs1 rm rd) = rs2 := by
  apply BitVec.eq_of_toNat_eq
  simp only [rs2Field, encodeR4, BitVec.extractLsb'_toNat, toNat_append_eq, Nat.shiftRight_eq_div_pow]
  omega

@[simp] theorem rs3Field_encodeR4 : rs3Field (encodeR4 op fmt rs3 rs2 rs1 rm rd) = rs3 := by
  apply BitVec.eq_of_toNat_eq
  simp only [rs3Field, encodeR4, BitVec.extractLsb'_toNat, toNat_append_eq, Nat.shiftRight_eq_div_pow]
  omega

@[simp] theorem fmtField_encodeR4 : fmtField (encodeR4 op fmt rs3 rs2 rs1 rm rd) = fmt := by
  apply BitVec.eq_of_toNat_eq
  simp only [fmtField, encodeR4, BitVec.extractLsb'_toNat, toNat_append_eq, Nat.shiftRight_eq_div_pow]
  omega

end R4

/-! ## Words under the masks of the table (30_encoding.md R67) -/

theorem and_sixFields (a a' : BitVec 7) (b b' c c' : BitVec 5) (d d' : BitVec 3) (e e' : BitVec 5) (g g' : BitVec 7) :
    (a ++ b ++ c ++ d ++ e ++ g) &&& (a' ++ b' ++ c' ++ d' ++ e' ++ g') =
      (a &&& a') ++ (b &&& b') ++ (c &&& c') ++ (d &&& d') ++ (e &&& e') ++ (g &&& g') := by
  rw [BitVec.and_append, BitVec.and_append, BitVec.and_append, BitVec.and_append, BitVec.and_append]

theorem and_sevenFields (z z' : BitVec 5) (a a' : BitVec 2) (b b' c c' : BitVec 5) (d d' : BitVec 3) (e e' : BitVec 5)
    (g g' : BitVec 7) :
    (z ++ a ++ b ++ c ++ d ++ e ++ g) &&& (z' ++ a' ++ b' ++ c' ++ d' ++ e' ++ g') =
      (z &&& z') ++ (a &&& a') ++ (b &&& b') ++ (c &&& c') ++ (d &&& d') ++ (e &&& e') ++ (g &&& g') := by
  rw [BitVec.and_append, BitVec.and_append, BitVec.and_append, BitVec.and_append, BitVec.and_append, BitVec.and_append]

theorem and_ones7 (a : BitVec 7) : a &&& 0x7F#7 = a := by revert a; decide
theorem and_ones5 (a : BitVec 5) : a &&& 0x1F#5 = a := by revert a; decide
theorem and_ones3 (a : BitVec 3) : a &&& 0x7#3 = a := by revert a; decide
theorem and_ones2 (a : BitVec 2) : a &&& 0x3#2 = a := by revert a; decide

section Masks
variable (f7 : BitVec 7) (rs2 rs1 : Reg) (f3 : RoundingCode) (rd : Reg)

theorem encodeR_and_twoOperand :
    encodeR f7 rs2 rs1 f3 rd &&& 0xFE00007F#32 = encodeR f7 0#5 0#5 0#3 0#5 := by
  refine (and_sixFields f7 0x7F#7 rs2 0#5 rs1 0#5 f3 0#3 rd 0#5 _ 0x7F#7).trans ?_
  simp only [and_ones7, BitVec.and_zero, encodeR]

theorem encodeR_and_oneOperand :
    encodeR f7 rs2 rs1 f3 rd &&& 0xFFF0007F#32 = encodeR f7 rs2 0#5 0#3 0#5 := by
  refine (and_sixFields f7 0x7F#7 rs2 0x1F#5 rs1 0#5 f3 0#3 rd 0#5 _ 0x7F#7).trans ?_
  simp only [and_ones7, and_ones5, BitVec.and_zero, encodeR]

theorem encodeR_and_function :
    encodeR f7 rs2 rs1 f3 rd &&& 0xFE00707F#32 = encodeR f7 0#5 0#5 f3 0#5 := by
  refine (and_sixFields f7 0x7F#7 rs2 0#5 rs1 0#5 f3 0x7#3 rd 0#5 _ 0x7F#7).trans ?_
  simp only [and_ones7, and_ones3, BitVec.and_zero, encodeR]

theorem encodeR_and_classify :
    encodeR f7 rs2 rs1 f3 rd &&& 0xFFF0707F#32 = encodeR f7 rs2 0#5 f3 0#5 := by
  refine (and_sixFields f7 0x7F#7 rs2 0x1F#5 rs1 0#5 f3 0x7#3 rd 0#5 _ 0x7F#7).trans ?_
  simp only [and_ones7, and_ones5, and_ones3, BitVec.and_zero, encodeR]

end Masks

theorem encodeR4_and_mask (op : BitVec 7) (fmt : BitVec 2) (rs3 rs2 rs1 : Reg) (rm : RoundingCode) (rd : Reg) :
    encodeR4 op fmt rs3 rs2 rs1 rm rd &&& 0x0600007F#32 = encodeR4 op fmt 0#5 0#5 0#5 0#3 0#5 := by
  refine (and_sevenFields rs3 0#5 fmt 0x3#2 rs2 0#5 rs1 0#5 rm 0#3 rd 0#5 op 0x7F#7).trans ?_
  simp only [and_ones7, and_ones2, BitVec.and_zero, encodeR4]

theorem whenRv64_eq (d : Decoded) : whenRv64 .rv64 d = d := by simp [whenRv64]
theorem whenRv64_rv32 (d : Decoded) : whenRv64 .rv32 d = .illegal := by simp [whenRv64]

end Sys2Proof
end

