-- ==== Sys2Proof/Laws/Exec.lean ====
section
/-! SUPPORT. What an instruction can do, said once for all 48: `exec` is one of five shapes around a primitive that sees the build and
the register files only (40_control_path.md R80, R87, R93). -/

namespace Sys2Proof.Machine

/-- An FP operand port as a function of the FP register file (10_state.md R33, R34). -/
def fPort (c : Config) (f : Vector FpWord 32) (fmt : Fmt) (r : Reg) : Pattern fmt :=
  match fmt with
  | .S => readS c.f32Box (f.get r.toFin)
  | .D => f.get r.toFin

/-- The integer operand port as a function of the integer register file (10_state.md R32). -/
def xPort (x : Vector XWord 32) (r : Reg) : XWord := if r = 0#5 then 0#64 else x.get r.toFin

theorem readPort_eq_fPort (fmt : Fmt) (r : Reg) (s : State) : readPort fmt r s = fPort s.build s.f fmt r := by cases fmt <;> rfl

theorem readX_eq_xPort (r : Reg) (s : State) : readX r s = xPort s.x r := rfl

/-- The L and LU conversions stand behind the XLEN check, the other operations do not. -/
def behindXlen (i : Instr) (op : State → StepResult) : State → StepResult := if i.needsRv64 then onRv64 op else op

theorem behindXlen_of_wf {i : Instr} {s : State} (h : i.wf s.build.xlen = true) (op : State → StepResult) :
    behindXlen i op s = op s := by
  unfold behindXlen
  cases hn : i.needsRv64
  · simp
  · have hx : s.build.xlen = .rv64 := by simpa [Instr.wf, hn] using h
    simp [onRv64_rv64 hx]

theorem behindXlen_of_not_wf {i : Instr} {s : State} (h : i.wf s.build.xlen = false) (op : State → StepResult) :
    behindXlen i op s = .refused .absentOperation := by
  cases hn : i.needsRv64
  · simp [Instr.wf, hn] at h
  · cases hx : s.build.xlen
    · simp [behindXlen, hn, onRv64_rv32 hx]
    · simp [Instr.wf, hx] at h

/-- An instruction with a rounding code and an FP result. -/
def RoundingFpShape (i : Instr) : Prop :=
  ∃ rm fmt rd, ∃ p : Directive → Config → Vector FpWord 32 → Vector XWord 32 → Raised (FpResult fmt),
    roundingCode i = some rm ∧ (∀ c, gated c i = true)
      ∧ exec i = behindXlen i (roundingOp rm fun dir t => finishFp fmt rd (p dir t.build t.f t.x) t)

/-- An instruction with a rounding code and an integer result. -/
def RoundingIntShape (i : Instr) : Prop :=
  ∃ rm rd, ∃ p : Directive → Config → Vector FpWord 32 → Raised XWord,
    roundingCode i = some rm ∧ (∀ c, gated c i = true)
      ∧ exec i = behindXlen i (roundingOp rm fun dir t => finishInt rd (p dir t.build t.f) t)

/-- A minimum or maximum. -/
def PlainFpShape (i : Instr) : Prop :=
  ∃ fmt rd, ∃ p : Config → Vector FpWord 32 → Raised (FpResult fmt),
    roundingCode i = none ∧ (∀ c, gated c i = true) ∧ i.needsRv64 = false
      ∧ exec i = plainOp true fun t => finishFp fmt rd (p t.build t.f) t

/-- A comparison. -/
def PlainIntShape (i : Instr) : Prop :=
  ∃ rd, ∃ p : Config → Vector FpWord 32 → Raised XWord,
    roundingCode i = none ∧ (∀ c, gated c i = true) ∧ i.needsRv64 = false
      ∧ exec i = plainOp true fun t => finishInt rd (p t.build t.f) t

/-- A classification. -/
def ClassShape (i : Instr) : Prop :=
  ∃ rd, ∃ p : Config → Vector FpWord 32 → XWord,
    roundingCode i = none ∧ (∀ c, gated c i = c.classifyGated) ∧ i.needsRv64 = false
      ∧ ∀ s, exec i s = plainOp s.build.classifyGated (fun t => completeInt rd (p t.build t.f) t) s

/-- Every instruction has one of the five shapes. -/
theorem exec_shape (i : Instr) :
    RoundingFpShape i ∨ RoundingIntShape i ∨ PlainFpShape i ∨ PlainIntShape i ∨ ClassShape i := by
  cases i with
  | fmaddS rd rs1 rs2 rs3 rm =>
    exact .inl ⟨rm, .S, rd, fun dir c f _ => fma c .S (fPort c f .S rs1) (fPort c f .S rs2) (fPort c f .S rs3) dir, rfl, fun _ => rfl, rfl⟩
  | fmsubS rd rs1 rs2 rs3 rm =>
    exact .inl ⟨rm, .S, rd, fun dir c f _ => fma c .S (fPort c f .S rs1) (fPort c f .S rs2) (flip .S (fPort c f .S rs3)) dir, rfl, fun _ => rfl, rfl⟩
  | fnmsubS rd rs1 rs2 rs3 rm =>
    exact .inl ⟨rm, .S, rd, fun dir c f _ => fma c .S (flip .S (fPort c f .S rs1)) (fPort c f .S rs2) (fPort c f .S rs3) dir, rfl, fun _ => rfl, rfl⟩
  | fnmaddS rd rs1 rs2 rs3 rm =>
    exact .inl ⟨rm, .S, rd, fun dir c f _ => fma c .S (flip .S (fPort c f .S rs1)) (fPort c f .S rs2) (flip .S (fPort c f .S rs3)) dir, rfl, fun _ => rfl, rfl⟩
  | fmaddD rd rs1 rs2 rs3 rm =>
    exact .inl ⟨rm, .D, rd, fun dir c f _ => fma c .D (fPort c f .D rs1) (fPort c f .D rs2) (fPort c f .D rs3) dir, rfl, fun _ => rfl, rfl⟩
  | fmsubD rd rs1 rs2 rs3 rm =>
    exact .inl ⟨rm, .D, rd, fun dir c f _ => fma c .D (fPort c f .D rs1) (fPort c f .D rs2) (flip .D (fPort c f .D rs3)) dir, rfl, fun _ => rfl, rfl⟩
  | fnmsubD rd rs1 rs2 rs3 rm =>
    exact .inl ⟨rm, .D, rd, fun dir c f _ => fma c .D (flip .D (fPort c f .D rs1)) (fPort c f .D rs2) (fPort c f .D rs3) dir, rfl, fun _ => rfl, rfl⟩
  | fnmaddD rd rs1 rs2 rs3 rm =>
    exact .inl ⟨rm, .D, rd, fun dir c f _ => fma c .D (flip .D (fPort c f .D rs1)) (fPort c f .D rs2) (flip .D (fPort c f .D rs3)) dir, rfl, fun _ => rfl, rfl⟩
  | faddS rd rs1 rs2 rm =>
    exact .inl ⟨rm, .S, rd, fun dir c f _ => add c .S (fPort c f .S rs1) (fPort c f .S rs2) dir, rfl, fun _ => rfl, rfl⟩
  | fsubS rd rs1 rs2 rm =>
    exact .inl ⟨rm, .S, rd, fun dir c f _ => sub c .S (fPort c f .S rs1) (fPort c f .S rs2) dir, rfl, fun _ => rfl, rfl⟩
  | fmulS rd rs1 rs2 rm =>
    exact .inl ⟨rm, .S, rd, fun dir c f _ => mul c .S (fPort c f .S rs1) (fPort c f .S rs2) dir, rfl, fun _ => rfl, rfl⟩
  | fdivS rd rs1 rs2 rm =>
    exact .inl ⟨rm, .S, rd, fun dir c f _ => div c .S (fPort c f .S rs1) (fPort c f .S rs2) dir, rfl, fun _ => rfl, rfl⟩
  | fsqrtS rd rs1 rm =>
    exact .inl ⟨rm, .S, rd, fun dir c f _ => sqrt c .S (fPort c f .S rs1) dir, rfl, fun _ => rfl, rfl⟩
  | fminS rd rs1 rs2 =>
    exact .inr (.inr (.inl ⟨.S, rd, fun c f => minMax c .S true (fPort c f .S rs1) (fPort c f .S rs2), rfl, fun _ => rfl, rfl, rfl⟩))
  | fmaxS rd rs1 rs2 =>
    exact .inr (.inr (.inl ⟨.S, rd, fun c f => minMax c .S false (fPort c f .S rs1) (fPort c f .S rs2), rfl, fun _ => rfl, rfl, rfl⟩))
  | fleS rd rs1 rs2 =>
    exact .inr (.inr (.inr (.inl ⟨rd, fun c f => fle .S (fPort c f .S rs1) (fPort c f .S rs2), rfl, fun _ => rfl, rfl, rfl⟩)))
  | fltS rd rs1 rs2 =>
    exact .inr (.inr (.inr (.inl ⟨rd, fun c f => flt .S (fPort c f .S rs1) (fPort c f .S rs2), rfl, fun _ => rfl, rfl, rfl⟩)))
  | feqS rd rs1 rs2 =>
    exact .inr (.inr (.inr (.inl ⟨rd, fun c f => feq c .S (fPort c f .S rs1) (fPort c f .S rs2), rfl, fun _ => rfl, rfl, rfl⟩)))
  | fcvtWS rd rs1 rm =>
    exact .inr (.inl ⟨rm, rd, fun dir c f => f2i c .S .w (fPort c f .S rs1) dir, rfl, fun _ => rfl, rfl⟩)
  | fcvtWuS rd rs1 rm =>
    exact .inr (.inl ⟨rm, rd, fun dir c f => f2i c .S .wu (fPort c f .S rs1) dir, rfl, fun _ => rfl, rfl⟩)
  | fcvtLS rd rs1 rm =>
    exact .inr (.inl ⟨rm, rd, fun dir c f => f2i c .S .l (fPort c f .S rs1) dir, rfl, fun _ => rfl, rfl⟩)
  | fcvtLuS rd rs1 rm =>
    exact .inr (.inl ⟨rm, rd, fun dir c f => f2i c .S .lu (fPort c f .S rs1) dir, rfl, fun _ => rfl, rfl⟩)
  | fcvtSW rd rs1 rm =>
    exact .inl ⟨rm, .S, rd, fun dir c _ x => i2f c .S .w (xPort x rs1) dir, rfl, fun _ => rfl, rfl⟩
  | fcvtSWu rd rs1 rm =>
    exact .inl ⟨rm, .S, rd, fun dir c _ x => i2f c .S .wu (xPort x rs1) dir, rfl, fun _ => rfl, rfl⟩
  | fcvtSL rd rs1 rm =>
    exact .inl ⟨rm, .S, rd, fun dir c _ x => i2f c .S .l (xPort x rs1) dir, rfl, fun _ => rfl, rfl⟩
  | fcvtSLu rd rs1 rm =>
    exact .inl ⟨rm, .S, rd, fun dir c _ x => i2f c .S .lu (xPort x rs1) dir, rfl, fun _ => rfl, rfl⟩
  | fclassS rd rs1 =>
    exact .inr (.inr (.inr (.inr ⟨rd, fun c f => (classify c .S (fPort c f .S rs1)).zeroExtend 64, rfl, fun _ => rfl, rfl, fun _ => rfl⟩)))
  | faddD rd rs1 rs2 rm =>
    exact .inl ⟨rm, .D, rd, fun dir c f _ => add c .D (fPort c f .D rs1) (fPort c f .D rs2) dir, rfl, fun _ => rfl, rfl⟩
  | fsubD rd rs1 rs2 rm =>
    exact .inl ⟨rm, .D, rd, fun dir c f _ => sub c .D (fPort c f .D rs1) (fPort c f .D rs2) dir, rfl, fun _ => rfl, rfl⟩
  | fmulD rd rs1 rs2 rm =>
    exact .inl ⟨rm, .D, rd, fun dir c f _ => mul c .D (fPort c f .D rs1) (fPort c f .D rs2) dir, rfl, fun _ => rfl, rfl⟩
  | fdivD rd rs1 rs2 rm =>
    exact .inl ⟨rm, .D, rd, fun dir c f _ => div c .D (fPort c f .D rs1) (fPort c f .D rs2) dir, rfl, fun _ => rfl, rfl⟩
  | fsqrtD rd rs1 rm =>
    exact .inl ⟨rm, .D, rd, fun dir c f _ => sqrt c .D (fPort c f .D rs1) dir, rfl, fun _ => rfl, rfl⟩
  | fminD rd rs1 rs2 =>
    exact .inr (.inr (.inl ⟨.D, rd, fun c f => minMax c .D true (fPort c f .D rs1) (fPort c f .D rs2), rfl, fun _ => rfl, rfl, rfl⟩))
  | fmaxD rd rs1 rs2 =>
    exact .inr (.inr (.inl ⟨.D, rd, fun c f => minMax c .D false (fPort c f .D rs1) (fPort c f .D rs2), rfl, fun _ => rfl, rfl, rfl⟩))
  | fleD rd rs1 rs2 =>
    exact .inr (.inr (.inr (.inl ⟨rd, fun c f => fle .D (fPort c f .D rs1) (fPort c f .D rs2), rfl, fun _ => rfl, rfl, rfl⟩)))
  | fltD rd rs1 rs2 =>
    exact .inr (.inr (.inr (.inl ⟨rd, fun c f => flt .D (fPort c f .D rs1) (fPort c f .D rs2), rfl, fun _ => rfl, rfl, rfl⟩)))
  | feqD rd rs1 rs2 =>
    exact .inr (.inr (.inr (.inl ⟨rd, fun c f => feq c .D (fPort c f .D rs1) (fPort c f .D rs2), rfl, fun _ => rfl, rfl, rfl⟩)))
  | fcvtWD rd rs1 rm =>
    exact .inr (.inl ⟨rm, rd, fun dir c f => f2i c .D .w (fPort c f .D rs1) dir, rfl, fun _ => rfl, rfl⟩)
  | fcvtWuD rd rs1 rm =>
    exact .inr (.inl ⟨rm, rd, fun dir c f => f2i c .D .wu (fPort c f .D rs1) dir, rfl, fun _ => rfl, rfl⟩)
  | fcvtLD rd rs1 rm =>
    exact .inr (.inl ⟨rm, rd, fun dir c f => f2i c .D .l (fPort c f .D rs1) dir, rfl, fun _ => rfl, rfl⟩)
  | fcvtLuD rd rs1 rm =>
    exact .inr (.inl ⟨rm, rd, fun dir c f => f2i c .D .lu (fPort c f .D rs1) dir, rfl, fun _ => rfl, rfl⟩)
  | fcvtDW rd rs1 rm =>
    exact .inl ⟨rm, .D, rd, fun dir c _ x => i2f c .D .w (xPort x rs1) dir, rfl, fun _ => rfl, rfl⟩
  | fcvtDWu rd rs1 rm =>
    exact .inl ⟨rm, .D, rd, fun dir c _ x => i2f c .D .wu (xPort x rs1) dir, rfl, fun _ => rfl, rfl⟩
  | fcvtDL rd rs1 rm =>
    exact .inl ⟨rm, .D, rd, fun dir c _ x => i2f c .D .l (xPort x rs1) dir, rfl, fun _ => rfl, rfl⟩
  | fcvtDLu rd rs1 rm =>
    exact .inl ⟨rm, .D, rd, fun dir c _ x => i2f c .D .lu (xPort x rs1) dir, rfl, fun _ => rfl, rfl⟩
  | fclassD rd rs1 =>
    exact .inr (.inr (.inr (.inr ⟨rd, fun c f => (classify c .D (fPort c f .D rs1)).zeroExtend 64, rfl, fun _ => rfl, rfl, fun _ => rfl⟩)))
  | fcvtSD rd rs1 rm =>
    exact .inl ⟨rm, .S, rd, fun dir c f _ => narrow c (fPort c f .D rs1) dir, rfl, fun _ => rfl, rfl⟩
  | fcvtDS rd rs1 rm =>
    exact .inl ⟨rm, .D, rd, fun _ c f _ => widen c (fPort c f .S rs1), rfl, fun _ => rfl, rfl⟩

end Sys2Proof.Machine
end

