-- ==== Sys2Proof/Laws/Format.lean ====
section
/-! SUPPORT. The fields of a pattern determine it and are what ofFields puts there; the named constants of a format are what their
names say. -/

namespace Sys2Proof.Machine

/-! ## Fields -/

theorem expOf_lt (fmt : Fmt) (v : Pattern fmt) : expOf fmt v < 2 ^ expBits fmt := Nat.mod_lt _ (by positivity)

theorem fracOf_lt (fmt : Fmt) (v : Pattern fmt) : fracOf fmt v < 2 ^ fracBits fmt := Nat.mod_lt _ (by positivity)

theorem expOf_le_expMax (fmt : Fmt) (v : Pattern fmt) : expOf fmt v ≤ expMax fmt := by
  have := expOf_lt fmt v
  unfold expMax
  omega

/-- The sign bit as a quotient. -/
theorem signOf_toNat (fmt : Fmt) (v : Pattern fmt) : (signOf fmt v).toNat = v.toNat / 2 ^ (fmt.width - 1) := by
  have h : v.toNat < 2 ^ fmt.width := v.isLt
  have hb : signOf fmt v = decide (v.toNat / 2 ^ (fmt.width - 1) % 2 = 1) := by
    simp [signOf, BitVec.getLsbD, Nat.testBit_eq_decide_div_mod_eq]
  have hlt : v.toNat / 2 ^ (fmt.width - 1) < 2 := by cases fmt <;> simp only [Fmt.width] at h ⊢ <;> omega
  rw [hb]
  generalize v.toNat / 2 ^ (fmt.width - 1) = k at hlt ⊢
  obtain rfl | rfl : k = 0 ∨ k = 1 := by omega
  · rfl
  · rfl

/-- A pattern as a number: its three fields. -/
theorem toNat_eq_fields (fmt : Fmt) (v : Pattern fmt) :
    v.toNat = (signOf fmt v).toNat * 2 ^ (fmt.width - 1) + expOf fmt v * 2 ^ fracBits fmt + fracOf fmt v := by
  have h : v.toNat < 2 ^ fmt.width := v.isLt
  rw [signOf_toNat]
  cases fmt <;> simp only [expOf, fracOf, fracBits, expBits, Fmt.width] at h ⊢ <;> omega

theorem ofFields_toNat (fmt : Fmt) (s : Bool) {e f : Nat} (he : e < 2 ^ expBits fmt) (hf : f < 2 ^ fracBits fmt) :
    (ofFields fmt s e f).toNat = s.toNat * 2 ^ (fmt.width - 1) + e * 2 ^ fracBits fmt + f := by
  have hs : s.toNat ≤ 1 := Bool.toNat_le s
  simp only [ofFields, BitVec.toNat_ofNat, Nat.mod_eq_of_lt he, Nat.mod_eq_of_lt hf]
  cases fmt <;> simp only [fracBits, expBits, Fmt.width] at he hf ⊢ <;> omega

theorem signOf_ofFields (fmt : Fmt) (s : Bool) {e f : Nat} (he : e < 2 ^ expBits fmt) (hf : f < 2 ^ fracBits fmt) :
    signOf fmt (ofFields fmt s e f) = s := by
  have h : (signOf fmt (ofFields fmt s e f)).toNat = s.toNat := by
    rw [signOf_toNat, ofFields_toNat fmt s he hf]
    cases fmt <;> simp only [fracBits, expBits, Fmt.width] at he hf ⊢ <;> omega
  revert h
  cases signOf fmt (ofFields fmt s e f) <;> cases s <;> simp

theorem expOf_ofFields (fmt : Fmt) (s : Bool) {e f : Nat} (he : e < 2 ^ expBits fmt) (hf : f < 2 ^ fracBits fmt) :
    expOf fmt (ofFields fmt s e f) = e := by
  rw [expOf, ofFields_toNat fmt s he hf]
  cases fmt <;> simp only [fracBits, expBits, Fmt.width] at he hf ⊢ <;> omega

theorem fracOf_ofFields (fmt : Fmt) (s : Bool) {e f : Nat} (he : e < 2 ^ expBits fmt) (hf : f < 2 ^ fracBits fmt) :
    fracOf fmt (ofFields fmt s e f) = f := by
  rw [fracOf, ofFields_toNat fmt s he hf]
  cases fmt <;> simp only [fracBits, expBits, Fmt.width] at he hf ⊢ <;> omega

/-- A pattern is rebuilt from its fields. -/
theorem ofFields_fields (fmt : Fmt) (v : Pattern fmt) : ofFields fmt (signOf fmt v) (expOf fmt v) (fracOf fmt v) = v := by
  apply BitVec.eq_of_toNat_eq
  rw [ofFields_toNat fmt _ (expOf_lt fmt v) (fracOf_lt fmt v), ← toNat_eq_fields]

/-- Two patterns with the same fields are equal. -/
theorem eq_of_fields {fmt : Fmt} {v w : Pattern fmt} (hs : signOf fmt v = signOf fmt w) (he : expOf fmt v = expOf fmt w)
    (hf : fracOf fmt v = fracOf fmt w) : v = w := by
  rw [← ofFields_fields fmt v, ← ofFields_fields fmt w, hs, he, hf]

/-- The quiet bit is the top fraction bit (41_ieee_numerics.md R102). -/
theorem quietBit_eq (fmt : Fmt) (v : Pattern fmt) : quietBit fmt v = decide (2 ^ (fracBits fmt - 1) ≤ fracOf fmt v) := by
  have h : quietBit fmt v = decide (v.toNat / 2 ^ (fracBits fmt - 1) % 2 = 1) := by
    simp [quietBit, BitVec.getLsbD, Nat.testBit_eq_decide_div_mod_eq]
  rw [h]
  cases fmt <;> simp only [fracOf, fracBits] <;> apply decide_eq_decide.mpr <;> omega

/-! ## Kinds -/

/-- A pattern is exactly one of NaN, infinity or finite. -/
theorem isInf_of_isNaN {fmt : Fmt} {v : Pattern fmt} (h : isNaN fmt v = true) : isInf fmt v = false := by
  simp only [isNaN, isInf, Bool.and_eq_true, bne_iff_ne, beq_iff_eq] at h ⊢
  simp [h.2]

theorem isNaN_eq_or (c : Config) (fmt : Fmt) (v : Pattern fmt) : isNaN fmt v = (isSNaN c fmt v || isQNaN c fmt v) := by
  unfold isSNaN isQNaN
  cases isNaN fmt v <;> cases quietBit fmt v <;> cases c.snanBitIsOne <;> rfl

theorem isInf_infinity (fmt : Fmt) (s : Bool) : isInf fmt (infinity fmt s) = true := by
  cases fmt <;> cases s <;> decide

theorem signOf_infinity (fmt : Fmt) (s : Bool) : signOf fmt (infinity fmt s) = s := by
  cases fmt <;> cases s <;> decide

theorem isZero_zero (fmt : Fmt) (s : Bool) : isZero fmt (zero fmt s) = true := by
  cases fmt <;> cases s <;> decide

theorem signOf_zero (fmt : Fmt) (s : Bool) : signOf fmt (zero fmt s) = s := by
  cases fmt <;> cases s <;> decide

/-- A zero has no units, and a finite pattern without units is a zero. -/
theorem units_eq_zero_iff {fmt : Fmt} {v : Pattern fmt} : units fmt v = 0 ↔ isZero fmt v = true := by
  unfold units isZero
  by_cases h : expOf fmt v = 0
  · simp [h]
  · have hp : 0 < (2 ^ fracBits fmt + fracOf fmt v) * 2 ^ (expOf fmt v - 1) := by positivity
    simp [h]

/-- The canonical NaN is a quiet NaN under either convention (41_ieee_numerics.md R111). -/
theorem isQNaN_canonicalNaN (c : Config) (fmt : Fmt) : isQNaN c fmt (canonicalNaN c fmt) = true := by
  unfold isQNaN canonicalNaN
  cases fmt <;> cases c.snanBitIsOne <;> decide

/-- K is the exponent of MINSUB: emin - F = -K (41_ieee_numerics.md R104). -/
theorem minsubExp_eq (fmt : Fmt) : (minsubExp fmt : Int) = -(emin fmt - fracBits fmt) := by
  cases fmt <;> decide

/-! ## The flip (42_fma.md R130) -/

theorem flip_toNat (fmt : Fmt) (v : Pattern fmt) : (flip fmt v).toNat = v.toNat ^^^ 2 ^ (fmt.width - 1) := by
  cases fmt <;> simp [flip, signMask, Fmt.width]

theorem signOf_flip (fmt : Fmt) (v : Pattern fmt) : signOf fmt (flip fmt v) = !signOf fmt v := by
  cases fmt
  · simp only [signOf, flip, signMask, Fmt.width, BitVec.getLsbD_xor]; simp
  · simp only [signOf, flip, signMask, Fmt.width, BitVec.getLsbD_xor]; simp

end Sys2Proof.Machine
end

