-- ==== Sys2Proof/Laws/PerInstr.lean ====
section
/-! SUPPORT. Per-instruction families. TableRow: the encoder puts an instruction into its own row of the opcode table
(30_encoding.md R67). -/

namespace Sys2Proof.Laws

/-- The word of the instruction matches the row of R67 with its mnemonic, and the row is marked RV64 only iff the instruction needs
XLEN = 64. -/
def TableRow.Statement (i : Instr) : Prop :=
  ∃ r ∈ opcodeTable, r.mnemonic = i.mnemonic ∧ r.matches (encode i) = true ∧ r.rv64Only = i.needsRv64

/-- The four parts of the family for one row. -/
theorem TableRow.of_row {i : Instr} (r : OpcodeRow) (hm : r ∈ opcodeTable) (hn : r.mnemonic = i.mnemonic)
    (hw : encode i &&& r.mask = r.pattern) (hx : r.rv64Only = i.needsRv64) : TableRow.Statement i :=
  ⟨r, hm, hn, by simp [OpcodeRow.matches, hw], hx⟩

theorem TableRow.fmaddS (rd rs1 rs2 rs3 : Reg) (rm : RoundingCode) : TableRow.Statement (.fmaddS rd rs1 rs2 rs3 rm) :=
  TableRow.of_row ⟨"FMADD.S", 0x00000043#32, 0x0600007F#32, false⟩ (by decide) rfl
    ((encodeR4_and_mask _ _ _ _ _ _ _).trans (by decide)) rfl

theorem TableRow.fmsubS (rd rs1 rs2 rs3 : Reg) (rm : RoundingCode) : TableRow.Statement (.fmsubS rd rs1 rs2 rs3 rm) :=
  TableRow.of_row ⟨"FMSUB.S", 0x00000047#32, 0x0600007F#32, false⟩ (by decide) rfl
    ((encodeR4_and_mask _ _ _ _ _ _ _).trans (by decide)) rfl

theorem TableRow.fnmsubS (rd rs1 rs2 rs3 : Reg) (rm : RoundingCode) : TableRow.Statement (.fnmsubS rd rs1 rs2 rs3 rm) :=
  TableRow.of_row ⟨"FNMSUB.S", 0x0000004B#32, 0x0600007F#32, false⟩ (by decide) rfl
    ((encodeR4_and_mask _ _ _ _ _ _ _).trans (by decide)) rfl

theorem TableRow.fnmaddS (rd rs1 rs2 rs3 : Reg) (rm : RoundingCode) : TableRow.Statement (.fnmaddS rd rs1 rs2 rs3 rm) :=
  TableRow.of_row ⟨"FNMADD.S", 0x0000004F#32, 0x0600007F#32, false⟩ (by decide) rfl
    ((encodeR4_and_mask _ _ _ _ _ _ _).trans (by decide)) rfl

theorem TableRow.fmaddD (rd rs1 rs2 rs3 : Reg) (rm : RoundingCode) : TableRow.Statement (.fmaddD rd rs1 rs2 rs3 rm) :=
  TableRow.of_row ⟨"FMADD.D", 0x02000043#32, 0x0600007F#32, false⟩ (by decide) rfl
    ((encodeR4_and_mask _ _ _ _ _ _ _).trans (by decide)) rfl

theorem TableRow.fmsubD (rd rs1 rs2 rs3 : Reg) (rm : RoundingCode) : TableRow.Statement (.fmsubD rd rs1 rs2 rs3 rm) :=
  TableRow.of_row ⟨"FMSUB.D", 0x02000047#32, 0x0600007F#32, false⟩ (by decide) rfl
    ((encodeR4_and_mask _ _ _ _ _ _ _).trans (by decide)) rfl

theorem TableRow.fnmsubD (rd rs1 rs2 rs3 : Reg) (rm : RoundingCode) : TableRow.Statement (.fnmsubD rd rs1 rs2 rs3 rm) :=
  TableRow.of_row ⟨"FNMSUB.D", 0x0200004B#32, 0x0600007F#32, false⟩ (by decide) rfl
    ((encodeR4_and_mask _ _ _ _ _ _ _).trans (by decide)) rfl

theorem TableRow.fnmaddD (rd rs1 rs2 rs3 : Reg) (rm : RoundingCode) : TableRow.Statement (.fnmaddD rd rs1 rs2 rs3 rm) :=
  TableRow.of_row ⟨"FNMADD.D", 0x0200004F#32, 0x0600007F#32, false⟩ (by decide) rfl
    ((encodeR4_and_mask _ _ _ _ _ _ _).trans (by decide)) rfl

theorem TableRow.faddS (rd rs1 rs2 : Reg) (rm : RoundingCode) : TableRow.Statement (.faddS rd rs1 rs2 rm) :=
  TableRow.of_row ⟨"FADD.S", 0x00000053#32, 0xFE00007F#32, false⟩ (by decide) rfl
    ((encodeR_and_twoOperand _ _ _ _ _).trans (by decide)) rfl

theorem TableRow.fsubS (rd rs1 rs2 : Reg) (rm : RoundingCode) : TableRow.Statement (.fsubS rd rs1 rs2 rm) :=
  TableRow.of_row ⟨"FSUB.S", 0x08000053#32, 0xFE00007F#32, false⟩ (by decide) rfl
    ((encodeR_and_twoOperand _ _ _ _ _).trans (by decide)) rfl

theorem TableRow.fmulS (rd rs1 rs2 : Reg) (rm : RoundingCode) : TableRow.Statement (.fmulS rd rs1 rs2 rm) :=
  TableRow.of_row ⟨"FMUL.S", 0x10000053#32, 0xFE00007F#32, false⟩ (by decide) rfl
    ((encodeR_and_twoOperand _ _ _ _ _).trans (by decide)) rfl

theorem TableRow.fdivS (rd rs1 rs2 : Reg) (rm : RoundingCode) : TableRow.Statement (.fdivS rd rs1 rs2 rm) :=
  TableRow.of_row ⟨"FDIV.S", 0x18000053#32, 0xFE00007F#32, false⟩ (by decide) rfl
    ((encodeR_and_twoOperand _ _ _ _ _).trans (by decide)) rfl

theorem TableRow.fsqrtS (rd rs1 : Reg) (rm : RoundingCode) : TableRow.Statement (.fsqrtS rd rs1 rm) :=
  TableRow.of_row ⟨"FSQRT.S", 0x58000053#32, 0xFFF0007F#32, false⟩ (by decide) rfl
    ((encodeR_and_oneOperand _ _ _ _ _).trans (by decide)) rfl

theorem TableRow.fminS (rd rs1 rs2 : Reg) : TableRow.Statement (.fminS rd rs1 rs2) :=
  TableRow.of_row ⟨"FMIN.S", 0x28000053#32, 0xFE00707F#32, false⟩ (by decide) rfl
    ((encodeR_and_function _ _ _ _ _).trans (by decide)) rfl

theorem TableRow.fmaxS (rd rs1 rs2 : Reg) : TableRow.Statement (.fmaxS rd rs1 rs2) :=
  TableRow.of_row ⟨"FMAX.S", 0x28001053#32, 0xFE00707F#32, false⟩ (by decide) rfl
    ((encodeR_and_function _ _ _ _ _).trans (by decide)) rfl

theorem TableRow.fleS (rd rs1 rs2 : Reg) : TableRow.Statement (.fleS rd rs1 rs2) :=
  TableRow.of_row ⟨"FLE.S", 0xA0000053#32, 0xFE00707F#32, false⟩ (by decide) rfl
    ((encodeR_and_function _ _ _ _ _).trans (by decide)) rfl

theorem TableRow.fltS (rd rs1 rs2 : Reg) : TableRow.Statement (.fltS rd rs1 rs2) :=
  TableRow.of_row ⟨"FLT.S", 0xA0001053#32, 0xFE00707F#32, false⟩ (by decide) rfl
    ((encodeR_and_function _ _ _ _ _).trans (by decide)) rfl

theorem TableRow.feqS (rd rs1 rs2 : Reg) : TableRow.Statement (.feqS rd rs1 rs2) :=
  TableRow.of_row ⟨"FEQ.S", 0xA0002053#32, 0xFE00707F#32, false⟩ (by decide) rfl
    ((encodeR_and_function _ _ _ _ _).trans (by decide)) rfl

theorem TableRow.fcvtWS (rd rs1 : Reg) (rm : RoundingCode) : TableRow.Statement (.fcvtWS rd rs1 rm) :=
  TableRow.of_row ⟨"FCVT.W.S", 0xC0000053#32, 0xFFF0007F#32, false⟩ (by decide) rfl
    ((encodeR_and_oneOperand _ _ _ _ _).trans (by decide)) rfl

theorem TableRow.fcvtWuS (rd rs1 : Reg) (rm : RoundingCode) : TableRow.Statement (.fcvtWuS rd rs1 rm) :=
  TableRow.of_row ⟨"FCVT.WU.S", 0xC0100053#32, 0xFFF0007F#32, false⟩ (by decide) rfl
    ((encodeR_and_oneOperand _ _ _ _ _).trans (by decide)) rfl

theorem TableRow.fcvtLS (rd rs1 : Reg) (rm : RoundingCode) : TableRow.Statement (.fcvtLS rd rs1 rm) :=
  TableRow.of_row ⟨"FCVT.L.S", 0xC0200053#32, 0xFFF0007F#32, true⟩ (by decide) rfl
    ((encodeR_and_oneOperand _ _ _ _ _).trans (by decide)) rfl

theorem TableRow.fcvtLuS (rd rs1 : Reg) (rm : RoundingCode) : TableRow.Statement (.fcvtLuS rd rs1 rm) :=
  TableRow.of_row ⟨"FCVT.LU.S", 0xC0300053#32, 0xFFF0007F#32, true⟩ (by decide) rfl
    ((encodeR_and_oneOperand _ _ _ _ _).trans (by decide)) rfl

theorem TableRow.fcvtSW (rd rs1 : Reg) (rm : RoundingCode) : TableRow.Statement (.fcvtSW rd rs1 rm) :=
  TableRow.of_row ⟨"FCVT.S.W", 0xD0000053#32, 0xFFF0007F#32, false⟩ (by decide) rfl
    ((encodeR_and_oneOperand _ _ _ _ _).trans (by decide)) rfl

theorem TableRow.fcvtSWu (rd rs1 : Reg) (rm : RoundingCode) : TableRow.Statement (.fcvtSWu rd rs1 rm) :=
  TableRow.of_row ⟨"FCVT.S.WU", 0xD0100053#32, 0xFFF0007F#32, false⟩ (by decide) rfl
    ((encodeR_and_oneOperand _ _ _ _ _).trans (by decide)) rfl

theorem TableRow.fcvtSL (rd rs1 : Reg) (rm : RoundingCode) : TableRow.Statement (.fcvtSL rd rs1 rm) :=
  TableRow.of_row ⟨"FCVT.S.L", 0xD0200053#32, 0xFFF0007F#32, true⟩ (by decide) rfl
    ((encodeR_and_oneOperand _ _ _ _ _).trans (by decide)) rfl

theorem TableRow.fcvtSLu (rd rs1 : Reg) (rm : RoundingCode) : TableRow.Statement (.fcvtSLu rd rs1 rm) :=
  TableRow.of_row ⟨"FCVT.S.LU", 0xD0300053#32, 0xFFF0007F#32, true⟩ (by decide) rfl
    ((encodeR_and_oneOperand _ _ _ _ _).trans (by decide)) rfl

theorem TableRow.fclassS (rd rs1 : Reg) : TableRow.Statement (.fclassS rd rs1) :=
  TableRow.of_row ⟨"FCLASS.S", 0xE0001053#32, 0xFFF0707F#32, false⟩ (by decide) rfl
    ((encodeR_and_classify _ _ _ _ _).trans (by decide)) rfl

theorem TableRow.faddD (rd rs1 rs2 : Reg) (rm : RoundingCode) : TableRow.Statement (.faddD rd rs1 rs2 rm) :=
  TableRow.of_row ⟨"FADD.D", 0x02000053#32, 0xFE00007F#32, false⟩ (by decide) rfl
    ((encodeR_and_twoOperand _ _ _ _ _).trans (by decide)) rfl

theorem TableRow.fsubD (rd rs1 rs2 : Reg) (rm : RoundingCode) : TableRow.Statement (.fsubD rd rs1 rs2 rm) :=
  TableRow.of_row ⟨"FSUB.D", 0x0A000053#32, 0xFE00007F#32, false⟩ (by decide) rfl
    ((encodeR_and_twoOperand _ _ _ _ _).trans (by decide)) rfl

theorem TableRow.fmulD (rd rs1 rs2 : Reg) (rm : RoundingCode) : TableRow.Statement (.fmulD rd rs1 rs2 rm) :=
  TableRow.of_row ⟨"FMUL.D", 0x12000053#32, 0xFE00007F#32, false⟩ (by decide) rfl
    ((encodeR_and_twoOperand _ _ _ _ _).trans (by decide)) rfl

theorem TableRow.fdivD (rd rs1 rs2 : Reg) (rm : RoundingCode) : TableRow.Statement (.fdivD rd rs1 rs2 rm) :=
  TableRow.of_row ⟨"FDIV.D", 0x1A000053#32, 0xFE00007F#32, false⟩ (by decide) rfl
    ((encodeR_and_twoOperand _ _ _ _ _).trans (by decide)) rfl

theorem TableRow.fsqrtD (rd rs1 : Reg) (rm : RoundingCode) : TableRow.Statement (.fsqrtD rd rs1 rm) :=
  TableRow.of_row ⟨"FSQRT.D", 0x5A000053#32, 0xFFF0007F#32, false⟩ (by decide) rfl
    ((encodeR_and_oneOperand _ _ _ _ _).trans (by decide)) rfl

theorem TableRow.fminD (rd rs1 rs2 : Reg) : TableRow.Statement (.fminD rd rs1 rs2) :=
  TableRow.of_row ⟨"FMIN.D", 0x2A000053#32, 0xFE00707F#32, false⟩ (by decide) rfl
    ((encodeR_and_function _ _ _ _ _).trans (by decide)) rfl

theorem TableRow.fmaxD (rd rs1 rs2 : Reg) : TableRow.Statement (.fmaxD rd rs1 rs2) :=
  TableRow.of_row ⟨"FMAX.D", 0x2A001053#32, 0xFE00707F#32, false⟩ (by decide) rfl
    ((encodeR_and_function _ _ _ _ _).trans (by decide)) rfl

theorem TableRow.fleD (rd rs1 rs2 : Reg) : TableRow.Statement (.fleD rd rs1 rs2) :=
  TableRow.of_row ⟨"FLE.D", 0xA2000053#32, 0xFE00707F#32, false⟩ (by decide) rfl
    ((encodeR_and_function _ _ _ _ _).trans (by decide)) rfl

theorem TableRow.fltD (rd rs1 rs2 : Reg) : TableRow.Statement (.fltD rd rs1 rs2) :=
  TableRow.of_row ⟨"FLT.D", 0xA2001053#32, 0xFE00707F#32, false⟩ (by decide) rfl
    ((encodeR_and_function _ _ _ _ _).trans (by decide)) rfl

theorem TableRow.feqD (rd rs1 rs2 : Reg) : TableRow.Statement (.feqD rd rs1 rs2) :=
  TableRow.of_row ⟨"FEQ.D", 0xA2002053#32, 0xFE00707F#32, false⟩ (by decide) rfl
    ((encodeR_and_function _ _ _ _ _).trans (by decide)) rfl

theorem TableRow.fcvtWD (rd rs1 : Reg) (rm : RoundingCode) : TableRow.Statement (.fcvtWD rd rs1 rm) :=
  TableRow.of_row ⟨"FCVT.W.D", 0xC2000053#32, 0xFFF0007F#32, false⟩ (by decide) rfl
    ((encodeR_and_oneOperand _ _ _ _ _).trans (by decide)) rfl

theorem TableRow.fcvtWuD (rd rs1 : Reg) (rm : RoundingCode) : TableRow.Statement (.fcvtWuD rd rs1 rm) :=
  TableRow.of_row ⟨"FCVT.WU.D", 0xC2100053#32, 0xFFF0007F#32, false⟩ (by decide) rfl
    ((encodeR_and_oneOperand _ _ _ _ _).trans (by decide)) rfl

theorem TableRow.fcvtLD (rd rs1 : Reg) (rm : RoundingCode) : TableRow.Statement (.fcvtLD rd rs1 rm) :=
  TableRow.of_row ⟨"FCVT.L.D", 0xC2200053#32, 0xFFF0007F#32, true⟩ (by decide) rfl
    ((encodeR_and_oneOperand _ _ _ _ _).trans (by decide)) rfl

theorem TableRow.fcvtLuD (rd rs1 : Reg) (rm : RoundingCode) : TableRow.Statement (.fcvtLuD rd rs1 rm) :=
  TableRow.of_row ⟨"FCVT.LU.D", 0xC2300053#32, 0xFFF0007F#32, true⟩ (by decide) rfl
    ((encodeR_and_oneOperand _ _ _ _ _).trans (by decide)) rfl

theorem TableRow.fcvtDW (rd rs1 : Reg) (rm : RoundingCode) : TableRow.Statement (.fcvtDW rd rs1 rm) :=
  TableRow.of_row ⟨"FCVT.D.W", 0xD2000053#32, 0xFFF0007F#32, false⟩ (by decide) rfl
    ((encodeR_and_oneOperand _ _ _ _ _).trans (by decide)) rfl

theorem TableRow.fcvtDWu (rd rs1 : Reg) (rm : RoundingCode) : TableRow.Statement (.fcvtDWu rd rs1 rm) :=
  TableRow.of_row ⟨"FCVT.D.WU", 0xD2100053#32, 0xFFF0007F#32, false⟩ (by decide) rfl
    ((encodeR_and_oneOperand _ _ _ _ _).trans (by decide)) rfl

theorem TableRow.fcvtDL (rd rs1 : Reg) (rm : RoundingCode) : TableRow.Statement (.fcvtDL rd rs1 rm) :=
  TableRow.of_row ⟨"FCVT.D.L", 0xD2200053#32, 0xFFF0007F#32, true⟩ (by decide) rfl
    ((encodeR_and_oneOperand _ _ _ _ _).trans (by decide)) rfl

theorem TableRow.fcvtDLu (rd rs1 : Reg) (rm : RoundingCode) : TableRow.Statement (.fcvtDLu rd rs1 rm) :=
  TableRow.of_row ⟨"FCVT.D.LU", 0xD2300053#32, 0xFFF0007F#32, true⟩ (by decide) rfl
    ((encodeR_and_oneOperand _ _ _ _ _).trans (by decide)) rfl

theorem TableRow.fclassD (rd rs1 : Reg) : TableRow.Statement (.fclassD rd rs1) :=
  TableRow.of_row ⟨"FCLASS.D", 0xE2001053#32, 0xFFF0707F#32, false⟩ (by decide) rfl
    ((encodeR_and_classify _ _ _ _ _).trans (by decide)) rfl

theorem TableRow.fcvtSD (rd rs1 : Reg) (rm : RoundingCode) : TableRow.Statement (.fcvtSD rd rs1 rm) :=
  TableRow.of_row ⟨"FCVT.S.D", 0x40100053#32, 0xFFF0007F#32, false⟩ (by decide) rfl
    ((encodeR_and_oneOperand _ _ _ _ _).trans (by decide)) rfl

theorem TableRow.fcvtDS (rd rs1 : Reg) (rm : RoundingCode) : TableRow.Statement (.fcvtDS rd rs1 rm) :=
  TableRow.of_row ⟨"FCVT.D.S", 0x42000053#32, 0xFFF0007F#32, false⟩ (by decide) rfl
    ((encodeR_and_oneOperand _ _ _ _ _).trans (by decide)) rfl

end Sys2Proof.Laws
end

