-- ==== Sys2Proof/Tests/Slice0.lean ====
section
/-! SUPPORT. Tests and witnesses. Expected results come from 95_test_vectors.md (V<n>, E<n>) and from the corner cases of the numbered
rules; words are written out from the patterns of 30_encoding.md R67. A theorem witness_<Name> shows a concrete input that meets the
hypotheses of Obligations.<Name>. -/

namespace Sys2Proof.Tests

open Machine

set_option Elab.async false

/-! ## Well-formedness (WellFormed.lean has one check: XLEN) -/

/-- R11: the L and LU conversions do not exist when XLEN = 32. -/
theorem test_wf_refuses_l_on_rv32 :
    (Instr.fcvtLS 1 2 0).wf .rv32 = false ∧ (Instr.fcvtDLu 1 2 0).wf .rv32 = false := by decide

theorem test_wf_accepts :
    (Instr.fcvtLS 1 2 0).wf .rv64 = true ∧ (Instr.faddS 1 2 3 5).wf .rv32 = true := by decide

/-! ## Decoding: one word for every constructor, written out from its pattern of R67 with rd = 22, rs1 = 13, rs2 = 7, rs3 = 25 and
rm = 5 -/

theorem test_decode_fused :
    decode .rv64 0b11001000011101101101101101000011#32 = .op (.fmaddS 22 13 7 25 5)
      ∧ decode .rv64 0b11001000011101101101101101000111#32 = .op (.fmsubS 22 13 7 25 5)
      ∧ decode .rv64 0b11001000011101101101101101001011#32 = .op (.fnmsubS 22 13 7 25 5)
      ∧ decode .rv64 0b11001000011101101101101101001111#32 = .op (.fnmaddS 22 13 7 25 5)
      ∧ decode .rv64 0b11001010011101101101101101000011#32 = .op (.fmaddD 22 13 7 25 5)
      ∧ decode .rv64 0b11001010011101101101101101000111#32 = .op (.fmsubD 22 13 7 25 5)
      ∧ decode .rv64 0b11001010011101101101101101001011#32 = .op (.fnmsubD 22 13 7 25 5)
      ∧ decode .rv64 0b11001010011101101101101101001111#32 = .op (.fnmaddD 22 13 7 25 5) := by decide

theorem test_decode_arith :
    decode .rv64 0b00000000011101101101101101010011#32 = .op (.faddS 22 13 7 5)
      ∧ decode .rv64 0b00001000011101101101101101010011#32 = .op (.fsubS 22 13 7 5)
      ∧ decode .rv64 0b00010000011101101101101101010011#32 = .op (.fmulS 22 13 7 5)
      ∧ decode .rv64 0b00011000011101101101101101010011#32 = .op (.fdivS 22 13 7 5)
      ∧ decode .rv64 0b01011000000001101101101101010011#32 = .op (.fsqrtS 22 13 5)
      ∧ decode .rv64 0b00000010011101101101101101010011#32 = .op (.faddD 22 13 7 5)
      ∧ decode .rv64 0b00001010011101101101101101010011#32 = .op (.fsubD 22 13 7 5)
      ∧ decode .rv64 0b00010010011101101101101101010011#32 = .op (.fmulD 22 13 7 5)
      ∧ decode .rv64 0b00011010011101101101101101010011#32 = .op (.fdivD 22 13 7 5)
      ∧ decode .rv64 0b01011010000001101101101101010011#32 = .op (.fsqrtD 22 13 5) := by decide

theorem test_decode_min_max_compare :
    decode .rv64 0b00101000011101101000101101010011#32 = .op (.fminS 22 13 7)
      ∧ decode .rv64 0b00101000011101101001101101010011#32 = .op (.fmaxS 22 13 7)
      ∧ decode .rv64 0b10100000011101101000101101010011#32 = .op (.fleS 22 13 7)
      ∧ decode .rv64 0b10100000011101101001101101010011#32 = .op (.fltS 22 13 7)
      ∧ decode .rv64 0b10100000011101101010101101010011#32 = .op (.feqS 22 13 7)
      ∧ decode .rv64 0b00101010011101101000101101010011#32 = .op (.fminD 22 13 7)
      ∧ decode .rv64 0b00101010011101101001101101010011#32 = .op (.fmaxD 22 13 7)
      ∧ decode .rv64 0b10100010011101101000101101010011#32 = .op (.fleD 22 13 7)
      ∧ decode .rv64 0b10100010011101101001101101010011#32 = .op (.fltD 22 13 7)
      ∧ decode .rv64 0b10100010011101101010101101010011#32 = .op (.feqD 22 13 7) := by decide

theorem test_decode_convert_1 :
    decode .rv64 0b11000000000001101101101101010011#32 = .op (.fcvtWS 22 13 5)
      ∧ decode .rv64 0b11000000000101101101101101010011#32 = .op (.fcvtWuS 22 13 5)
      ∧ decode .rv64 0b11000000001001101101101101010011#32 = .op (.fcvtLS 22 13 5)
      ∧ decode .rv64 0b11000000001101101101101101010011#32 = .op (.fcvtLuS 22 13 5)
      ∧ decode .rv64 0b11010000000001101101101101010011#32 = .op (.fcvtSW 22 13 5)
      ∧ decode .rv64 0b11010000000101101101101101010011#32 = .op (.fcvtSWu 22 13 5)
      ∧ decode .rv64 0b11010000001001101101101101010011#32 = .op (.fcvtSL 22 13 5)
      ∧ decode .rv64 0b11010000001101101101101101010011#32 = .op (.fcvtSLu 22 13 5)
      ∧ decode .rv64 0b11000010000001101101101101010011#32 = .op (.fcvtWD 22 13 5) := by decide

theorem test_decode_convert_2 :
    decode .rv64 0b11000010000101101101101101010011#32 = .op (.fcvtWuD 22 13 5)
      ∧ decode .rv64 0b11000010001001101101101101010011#32 = .op (.fcvtLD 22 13 5)
      ∧ decode .rv64 0b11000010001101101101101101010011#32 = .op (.fcvtLuD 22 13 5)
      ∧ decode .rv64 0b11010010000001101101101101010011#32 = .op (.fcvtDW 22 13 5)
      ∧ decode .rv64 0b11010010000101101101101101010011#32 = .op (.fcvtDWu 22 13 5)
      ∧ decode .rv64 0b11010010001001101101101101010011#32 = .op (.fcvtDL 22 13 5)
      ∧ decode .rv64 0b11010010001101101101101101010011#32 = .op (.fcvtDLu 22 13 5)
      ∧ decode .rv64 0b01000000000101101101101101010011#32 = .op (.fcvtSD 22 13 5)
      ∧ decode .rv64 0b01000010000001101101101101010011#32 = .op (.fcvtDS 22 13 5) := by decide

theorem test_decode_classify :
    decode .rv64 0b11100000000001101001101101010011#32 = .op (.fclassS 22 13)
      ∧ decode .rv64 0b11100010000001101001101101010011#32 = .op (.fclassD 22 13) := by decide

/-- R69: fmt 0b10, another funct3 of FMIN, another rs2 of FSQRT, fmt 0b10 of FMADD, FCVT.L.S when XLEN = 32. -/
theorem test_decode_illegal :
    decode .rv64 0x04208053#32 = .illegal ∧ decode .rv64 0x28202053#32 = .illegal ∧ decode .rv64 0x58100053#32 = .illegal
      ∧ decode .rv64 0x04000043#32 = .illegal ∧ decode .rv32 0xC0200053#32 = .illegal := by decide

/-- R68; the CSR word is the `csrrs a2, fflags, zero` of program P1. -/
theorem test_decode_elsewhere :
    decode .rv64 0x00002007#32 = .elsewhere .load ∧ decode .rv64 0x00003027#32 = .elsewhere .store
      ∧ decode .rv64 0x20208053#32 = .elsewhere .registerFile ∧ decode .rv64 0x00102673#32 = .elsewhere .csr
      ∧ decode .rv64 0x00000013#32 = .foreign := by decide

theorem test_table_word :
    decodeTableWord 32 0x002081D3 = some (.faddS 3 1 2 0) ∧ decodeTableWord 32 0x00002007 = none := by decide

/-! ## One step of each instruction -/

/-- fp_enabled = 1, f1, f2, f3 = a, b, c and x1 = i. -/
def ready (a b c : FpWord) (i : XWord) : State :=
  writeX 1 i (writeF 3 c (writeF 2 b (writeF 1 a { State.reset with fpEnabled := true })))

/-- The same with a boxed single in each FP register. -/
def readyS (a b c : BitVec 32) : State := ready (0xFFFFFFFF#32 ++ a) (0xFFFFFFFF#32 ++ b) (0xFFFFFFFF#32 ++ c) 0

/-- The outcome and fflags after the instruction, when it answers a next state. -/
def after (i : Instr) (s : State) : Option (List OpOutcome × FlagSet) :=
  match exec i s with
  | .next t => some (t.outcomes, t.fflags)
  | .fault _ => none
  | .refused _ => none

/-- V28. -/
theorem test_fmaddS_1 :
    after (.fmaddS 9 1 2 3 0) (readyS 0x3F800001#32 0x3F800001#32 0xBF800002#32) = some ([.fp32 0x28800000#32], 0x00#5) := by decide +kernel

/-- V38. -/
theorem test_fmaddS_2 :
    after (.fmaddS 9 1 2 3 1) (readyS 0x7F7FFFFF#32 0x40000000#32 0x00000000#32) = some ([.fp32 0x7F7FFFFF#32], 0x05#5) := by decide +kernel

/-- V21. -/
theorem test_fmsubS_1 :
    after (.fmsubS 9 1 2 3 0) (readyS 0x40000000#32 0x40400000#32 0x3F800000#32) = some ([.fp32 0x40A00000#32], 0x00#5) := by decide +kernel

/-- V22. -/
theorem test_fnmsubS_1 :
    after (.fnmsubS 9 1 2 3 0) (readyS 0x40000000#32 0x40400000#32 0x3F800000#32) = some ([.fp32 0xC0A00000#32], 0x00#5) := by decide +kernel

/-- V33. -/
theorem test_fnmsubS_2 :
    after (.fnmsubS 9 1 2 3 0) (readyS 0x7F800001#32 0x3F800000#32 0x3F800000#32) = some ([.fp32 0x7FC00000#32], 0x10#5) := by decide +kernel

/-- V23. -/
theorem test_fnmaddS_1 :
    after (.fnmaddS 9 1 2 3 0) (readyS 0x40000000#32 0x40400000#32 0x3F800000#32) = some ([.fp32 0xC0E00000#32], 0x00#5) := by decide +kernel

/-- V36. -/
theorem test_fnmaddS_2 :
    after (.fnmaddS 9 1 2 3 0) (readyS 0x00000000#32 0x3F800000#32 0x00000000#32) = some ([.fp32 0x80000000#32], 0x00#5) := by decide +kernel

/-- V24. -/
theorem test_fmaddD_1 :
    after (.fmaddD 9 1 2 3 0) (ready 0x4000000000000000#64 0x4008000000000000#64 0x3FF0000000000000#64 0) = some ([.fp64 0x401C000000000000#64], 0x00#5) := by decide +kernel

/-- V25. -/
theorem test_fmsubD_1 :
    after (.fmsubD 9 1 2 3 0) (ready 0x4000000000000000#64 0x4008000000000000#64 0x3FF0000000000000#64 0) = some ([.fp64 0x4014000000000000#64], 0x00#5) := by decide +kernel

/-- V26. -/
theorem test_fnmsubD_1 :
    after (.fnmsubD 9 1 2 3 0) (ready 0x4000000000000000#64 0x4008000000000000#64 0x3FF0000000000000#64 0) = some ([.fp64 0xC014000000000000#64], 0x00#5) := by decide +kernel

/-- V27. -/
theorem test_fnmaddD_1 :
    after (.fnmaddD 9 1 2 3 0) (ready 0x4000000000000000#64 0x4008000000000000#64 0x3FF0000000000000#64 0) = some ([.fp64 0xC01C000000000000#64], 0x00#5) := by decide +kernel

/-- V19. -/
theorem test_faddS_1 :
    after (.faddS 9 1 2 0) { readyS 0x3F800000#32 0x40000000#32 0 with fflags := 0x1F#5 } = some ([.fp32 0x40400000#32], 0x1F#5) := by decide +kernel

/-- V43. -/
theorem test_faddS_2 :
    after (.faddS 9 1 2 0) (readyS 0x7F7FFFFF#32 0x7F7FFFFF#32 0) = some ([.fp32 0x7F800000#32], 0x05#5) := by decide +kernel

/-- V42. -/
theorem test_fsubS_1 :
    after (.fsubS 9 1 2 2) (readyS 0x3F800000#32 0x3F800000#32 0) = some ([.fp32 0x80000000#32], 0x00#5) := by decide +kernel

/-- V41. -/
theorem test_fsubS_2 :
    after (.fsubS 9 1 2 0) (readyS 0x3F800000#32 0x3F800000#32 0) = some ([.fp32 0x00000000#32], 0x00#5) := by decide +kernel

/-- V50. -/
theorem test_fmulS_1 :
    after (.fmulS 9 1 2 0) (readyS 0x00800001#32 0x3F000000#32 0) = some ([.fp32 0x00400000#32], 0x03#5) := by decide +kernel

/-- V52. -/
theorem test_fmulS_2 :
    after (.fmulS 9 1 2 3) (readyS 0x00000001#32 0x3F000000#32 0) = some ([.fp32 0x00000001#32], 0x03#5) := by decide +kernel

/-- V11. -/
theorem test_fdivS_1 :
    after (.fdivS 9 1 2 7) { readyS 0xBF800000#32 0x40400000#32 0 with frm := 3#3 } = some ([.fp32 0xBEAAAAAA#32], 0x01#5) := by decide +kernel

/-- V59. -/
theorem test_fdivS_2 :
    after (.fdivS 9 1 2 0) (readyS 0x7F800000#32 0x00000000#32 0) = some ([.fp32 0x7F800000#32], 0x00#5) := by decide +kernel

/-- V64. -/
theorem test_fsqrtS_1 :
    after (.fsqrtS 9 1 3) (readyS 0x40000000#32 0 0) = some ([.fp32 0x3FB504F4#32], 0x01#5) := by decide +kernel

/-- V67. -/
theorem test_fsqrtS_2 :
    after (.fsqrtS 9 1 0) (readyS 0xBF800000#32 0 0) = some ([.fp32 0x7FC00000#32], 0x10#5) := by decide +kernel

/-- V72. -/
theorem test_fminS_1 :
    after (.fminS 9 1 2) (readyS 0x80000000#32 0x00000000#32 0) = some ([.fp32 0x80000000#32], 0x00#5) := by decide +kernel

/-- V75. -/
theorem test_fminS_2 :
    after (.fminS 9 1 2) (readyS 0x7F800001#32 0x3F800000#32 0) = some ([.fp32 0x3F800000#32], 0x10#5) := by decide +kernel

/-- V73. -/
theorem test_fmaxS_1 :
    after (.fmaxS 9 1 2) (readyS 0x80000000#32 0x00000000#32 0) = some ([.fp32 0x00000000#32], 0x00#5) := by decide +kernel

/-- V76. -/
theorem test_fmaxS_2 :
    after (.fmaxS 9 1 2) (readyS 0x7FC00000#32 0x7F800001#32 0) = some ([.fp32 0x7FC00000#32], 0x10#5) := by decide +kernel

/-- V83. -/
theorem test_fleS_1 :
    after (.fleS 9 1 2) (readyS 0x80000000#32 0x00000000#32 0) = some ([.int 0x1#64], 0x00#5) := by decide +kernel

/-- V82. -/
theorem test_fleS_2 :
    after (.fleS 9 1 2) (readyS 0x3F800000#32 0x7FC00000#32 0) = some ([.int 0x0#64], 0x10#5) := by decide +kernel

/-- V84. -/
theorem test_fltS_1 :
    after (.fltS 9 1 2) (readyS 0x80000000#32 0x00000000#32 0) = some ([.int 0x0#64], 0x00#5) := by decide +kernel

/-- V81. -/
theorem test_fltS_2 :
    after (.fltS 9 1 2) (readyS 0x7FC00000#32 0x3F800000#32 0) = some ([.int 0x0#64], 0x10#5) := by decide +kernel

/-- V79. -/
theorem test_feqS_1 :
    after (.feqS 9 1 2) (readyS 0x7FC00000#32 0x3F800000#32 0) = some ([.int 0x0#64], 0x00#5) := by decide +kernel

/-- V80. -/
theorem test_feqS_2 :
    after (.feqS 9 1 2) (readyS 0x7F800001#32 0x3F800000#32 0) = some ([.int 0x0#64], 0x10#5) := by decide +kernel

/-- V90. -/
theorem test_fcvtWS_1 :
    after (.fcvtWS 9 1 2) (readyS 0xC0200000#32 0 0) = some ([.int 0xFFFFFFFFFFFFFFFD#64], 0x01#5) := by decide +kernel

/-- V108. -/
theorem test_fcvtWS_2 :
    after (.fcvtWS 9 1 0) (readyS 0x4F000000#32 0 0) = some ([.int 0x7FFFFFFF#64], 0x10#5) := by decide +kernel

/-- V106. -/
theorem test_fcvtWuS_1 :
    after (.fcvtWuS 9 1 0) (readyS 0xBE99999A#32 0 0) = some ([.int 0x0#64], 0x01#5) := by decide +kernel

/-- V107. -/
theorem test_fcvtWuS_2 :
    after (.fcvtWuS 9 1 2) (readyS 0xBE99999A#32 0 0) = some ([.int 0x0#64], 0x10#5) := by decide +kernel

/-- V100. -/
theorem test_fcvtLS_1 :
    after (.fcvtLS 9 1 0) (readyS 0x7FC00000#32 0 0) = some ([.int 0x7FFFFFFFFFFFFFFF#64], 0x10#5) := by decide +kernel

/-- R172. -/
theorem test_fcvtLS_2 :
    after (.fcvtLS 9 1 3) (readyS 0x3F800001#32 0 0) = some ([.int 0x2#64], 0x01#5) := by decide +kernel

/-- R173. -/
theorem test_fcvtLuS_1 :
    after (.fcvtLuS 9 1 0) (readyS 0x5F7FFFFF#32 0 0) = some ([.int 0xFFFFFF0000000000#64], 0x00#5) := by decide +kernel

/-- V115. -/
theorem test_fcvtSW_1 :
    after (.fcvtSW 9 1 0) (ready 0 0 0 0xFFFFFFFF#64) = some ([.fp32 0xBF800000#32], 0x00#5) := by decide +kernel

/-- V118. -/
theorem test_fcvtSW_2 :
    after (.fcvtSW 9 1 3) (ready 0 0 0 0x1000001#64) = some ([.fp32 0x4B800001#32], 0x01#5) := by decide +kernel

/-- V116. -/
theorem test_fcvtSWu_1 :
    after (.fcvtSWu 9 1 0) (ready 0 0 0 0xFFFFFFFF#64) = some ([.fp32 0x4F800000#32], 0x01#5) := by decide +kernel

/-- R180. -/
theorem test_fcvtSWu_2 :
    after (.fcvtSWu 9 1 1) (ready 0 0 0 0xFFFFFFFF#64) = some ([.fp32 0x4F7FFFFF#32], 0x01#5) := by decide +kernel

/-- R181. -/
theorem test_fcvtSL_1 :
    after (.fcvtSL 9 1 1) (ready 0 0 0 0x7FFFFFFFFFFFFFFF#64) = some ([.fp32 0x5EFFFFFF#32], 0x01#5) := by decide +kernel

/-- R182. -/
theorem test_fcvtSLu_1 :
    after (.fcvtSLu 9 1 1) (ready 0 0 0 0xFFFFFFFFFFFFFFFF#64) = some ([.fp32 0x5F7FFFFF#32], 0x01#5) := by decide +kernel

/-- V148. -/
theorem test_fclassS_1 :
    after (.fclassS 9 1) (readyS 0xFFFFFFFF#32 0 0) = some ([.int 0x200#64], 0x00#5) := by decide +kernel

/-- V147. -/
theorem test_fclassS_2 :
    after (.fclassS 9 1) (readyS 0x7FA00000#32 0 0) = some ([.int 0x100#64], 0x00#5) := by decide +kernel

/-- V70. -/
theorem test_faddD_1 :
    after (.faddD 9 1 2 0) (ready 0x3FB999999999999A#64 0x3FC999999999999A#64 0 0) = some ([.fp64 0x3FD3333333333334#64], 0x01#5) := by decide +kernel

/-- V71. -/
theorem test_fsubD_1 :
    after (.fsubD 9 1 2 0) (ready 0x3FF0000000000000#64 0x4000000000000000#64 0 0) = some ([.fp64 0xBFF0000000000000#64], 0x00#5) := by decide +kernel

/-- V53. -/
theorem test_fmulD_1 :
    after (.fmulD 9 1 2 0) (ready 0x7FF0000000000000#64 0x0000000000000000#64 0 0) = some ([.fp64 0x7FF8000000000000#64], 0x10#5) := by decide +kernel

/-- V18. -/
theorem test_fdivD_1 :
    after (.fdivD 9 1 2 0) { ready 0x3FF0000000000000#64 0x0000000000000000#64 0 0 with fflags := 0x01#5 } = some ([.fp64 0x7FF0000000000000#64], 0x09#5) := by decide +kernel

/-- V65. -/
theorem test_fsqrtD_1 :
    after (.fsqrtD 9 1 0) (ready 0x4000000000000000#64 0 0 0) = some ([.fp64 0x3FF6A09E667F3BCD#64], 0x01#5) := by decide +kernel

/-- R158. -/
theorem test_fminD_1 :
    after (.fminD 9 1 2) (ready 0x8000000000000000#64 0x0000000000000000#64 0 0) = some ([.fp64 0x8000000000000000#64], 0x00#5) := by decide +kernel

/-- V77. -/
theorem test_fmaxD_1 :
    after (.fmaxD 9 1 2) (ready 0x7FF0000000000000#64 0x3FF0000000000000#64 0 0) = some ([.fp64 0x7FF0000000000000#64], 0x00#5) := by decide +kernel

/-- R159. -/
theorem test_fmaxD_2 :
    after (.fmaxD 9 1 2) (ready 0x7FF8000000000000#64 0x4000000000000000#64 0 0) = some ([.fp64 0x4000000000000000#64], 0x00#5) := by decide +kernel

/-- V87. -/
theorem test_fleD_1 :
    after (.fleD 9 1 2) (ready 0x4000000000000000#64 0x3FF0000000000000#64 0 0) = some ([.int 0x0#64], 0x00#5) := by decide +kernel

/-- R166. -/
theorem test_fleD_2 :
    after (.fleD 9 1 2) (ready 0x4000000000000000#64 0x4000000000000000#64 0 0) = some ([.int 0x1#64], 0x00#5) := by decide +kernel

/-- R165. -/
theorem test_fltD_1 :
    after (.fltD 9 1 2) (ready 0x7FF8000000000000#64 0x3FF0000000000000#64 0 0) = some ([.int 0x0#64], 0x10#5) := by decide +kernel

/-- V85. -/
theorem test_feqD_1 :
    after (.feqD 9 1 2) (ready 0x8000000000000000#64 0x0000000000000000#64 0 0) = some ([.int 0x1#64], 0x00#5) := by decide +kernel

/-- V112. -/
theorem test_fcvtWD_1 :
    after (.fcvtWD 9 1 0) (ready 0x41DFFFFFFFE00000#64 0 0 0) = some ([.int 0x7FFFFFFF#64], 0x10#5) := by decide +kernel

/-- V113. -/
theorem test_fcvtWD_2 :
    after (.fcvtWD 9 1 1) (ready 0x41DFFFFFFFE00000#64 0 0 0) = some ([.int 0x7FFFFFFF#64], 0x01#5) := by decide +kernel

/-- V103. -/
theorem test_fcvtWuD_1 :
    after (.fcvtWuD 9 1 0) (ready 0xFFF0000000000000#64 0 0 0) = some ([.int 0x0#64], 0x10#5) := by decide +kernel

/-- R175. -/
theorem test_fcvtWuD_2 :
    after (.fcvtWuD 9 1 0) (ready 0x41EFFFFFFFE00000#64 0 0 0) = some ([.int 0xFFFFFFFFFFFFFFFF#64], 0x00#5) := by decide +kernel

/-- V104. -/
theorem test_fcvtLD_1 :
    after (.fcvtLD 9 1 0) (ready 0xFFF0000000000000#64 0 0 0) = some ([.int 0x8000000000000000#64], 0x10#5) := by decide +kernel

/-- R176. -/
theorem test_fcvtLD_2 :
    after (.fcvtLD 9 1 0) (ready 0x400C000000000000#64 0 0 0) = some ([.int 0x4#64], 0x01#5) := by decide +kernel

/-- R177. -/
theorem test_fcvtLuD_1 :
    after (.fcvtLuD 9 1 0) (ready 0x43EFFFFFFFFFFFFF#64 0 0 0) = some ([.int 0xFFFFFFFFFFFFF800#64], 0x00#5) := by decide +kernel

/-- V122. -/
theorem test_fcvtDW_1 :
    after (.fcvtDW 9 1 0) (ready 0 0 0 0xFFFFFFFF80000000#64) = some ([.fp64 0xC1E0000000000000#64], 0x00#5) := by decide +kernel

/-- R183. -/
theorem test_fcvtDW_2 :
    after (.fcvtDW 9 1 0) (ready 0 0 0 0x7FFFFFFF#64) = some ([.fp64 0x41DFFFFFFFC00000#64], 0x00#5) := by decide +kernel

/-- R184. -/
theorem test_fcvtDWu_1 :
    after (.fcvtDWu 9 1 0) (ready 0 0 0 0xFFFFFFFF80000000#64) = some ([.fp64 0x41E0000000000000#64], 0x00#5) := by decide +kernel

/-- V124. -/
theorem test_fcvtDL_1 :
    after (.fcvtDL 9 1 0) (ready 0 0 0 0x20000000000001#64) = some ([.fp64 0x4340000000000000#64], 0x01#5) := by decide +kernel

/-- V125. -/
theorem test_fcvtDL_2 :
    after (.fcvtDL 9 1 3) (ready 0 0 0 0x20000000000001#64) = some ([.fp64 0x4340000000000001#64], 0x01#5) := by decide +kernel

/-- V126. -/
theorem test_fcvtDLu_1 :
    after (.fcvtDLu 9 1 0) (ready 0 0 0 0xFFFFFFFFFFFFFFFF#64) = some ([.fp64 0x43F0000000000000#64], 0x01#5) := by decide +kernel

/-- R186. -/
theorem test_fcvtDLu_2 :
    after (.fcvtDLu 9 1 1) (ready 0 0 0 0xFFFFFFFFFFFFFFFF#64) = some ([.fp64 0x43EFFFFFFFFFFFFF#64], 0x01#5) := by decide +kernel

/-- V151. -/
theorem test_fclassD_1 :
    after (.fclassD 9 1) (ready 0x800FFFFFFFFFFFFF#64 0 0 0) = some ([.int 0x4#64], 0x00#5) := by decide +kernel

/-- V157. -/
theorem test_fclassD_2 :
    after (.fclassD 9 1) (ready 0x7FF0000000000001#64 0 0 0) = some ([.int 0x100#64], 0x00#5) := by decide +kernel

/-- V129. -/
theorem test_fcvtSD_1 :
    after (.fcvtSD 9 1 0) (ready 0x7E37E43C8800759C#64 0 0 0) = some ([.fp32 0x7F800000#32], 0x05#5) := by decide +kernel

/-- V130. -/
theorem test_fcvtSD_2 :
    after (.fcvtSD 9 1 0) (ready 0x3690000000000000#64 0 0 0) = some ([.fp32 0x00000000#32], 0x03#5) := by decide +kernel

/-- V133. -/
theorem test_fcvtDS_1 :
    after (.fcvtDS 9 1 0) (readyS 0x7F800001#32 0 0) = some ([.fp64 0x7FF8000000000000#64], 0x10#5) := by decide +kernel

/-- V135. -/
theorem test_fcvtDS_2 :
    after (.fcvtDS 9 1 0) (readyS 0x00000001#32 0 0) = some ([.fp64 0x36A0000000000000#64], 0x00#5) := by decide +kernel

/-! ## The control path, the register files and the host -/

/-- V2: the gate traps and leaves fflags. -/
theorem test_gate_trap :
    after (.faddS 9 1 2 0) { readyS 0x3F800000#32 0x40000000#32 0 with fpEnabled := false, fflags := 1#5 } =
      some ([.trap .illegalInstruction], 1#5) := by decide

/-- V6 and V15: a static code 6, and frm = 7 under code 7, trap in the Resolver. -/
theorem test_resolver_trap :
    after (.faddS 9 1 2 6) (readyS 0x3F800000#32 0x40000000#32 0) = some ([.trap .illegalInstruction], 0#5)
      ∧ after (.fdivS 9 1 2 7) { readyS 0x3F800000#32 0x40400000#32 0 with frm := 7#3 } = some ([.trap .illegalInstruction], 0#5) := by
  decide

/-- R34: a non-boxed single reads as the canonical NaN; R188: it widens to the double canonical NaN without a flag. -/
theorem test_unboxed_operand :
    after (.fcvtDS 9 1 0) (ready 0x3F800000#64 0 0 0) = some ([.fp64 0x7FF8000000000000#64], 0#5) := by decide

/-- R33, R34: a single result is written boxed; R39: no other register changes. -/
theorem test_result_is_boxed :
    ∃ t, exec (.faddS 9 1 2 0) (readyS 0x3F800000#32 0x40000000#32 0) = .next t ∧ readF 9 t = 0xFFFFFFFF40400000#64
      ∧ readF 1 t = 0xFFFFFFFF3F800000#64 := ⟨_, rfl, by decide⟩

/-- R32: an integer result written to x0 is discarded. -/
theorem test_x0_discards :
    ∃ t, exec (.fclassS 0 1) (readyS 0x3F800000#32 0 0) = .next t ∧ readX 0 t = 0#64 ∧ t.outcomes = [.int 0x40#64] :=
  ⟨_, rfl, by decide⟩

/-- V111: FCVT.WU.S with XLEN = 32 gives the 32-bit pattern; R208: FCVT.L.S is refused there. -/
theorem test_rv32 :
    after (.fcvtWuS 9 1 0) { readyS 0x4F7FFFFF#32 0 0 with build := { Config.taken with xlen := .rv32 } } =
        some ([.int 0xFFFFFF00#64], 0#5)
      ∧ exec (.fcvtLS 9 1 0) { State.reset with build := { Config.taken with xlen := .rv32 } } = .refused .absentOperation :=
  ⟨by decide +kernel, rfl⟩

/-- E3: under SNAN_BIT_IS_ONE = true the pattern 0x7FC00000 is signaling. -/
theorem test_snan_bit :
    after (.fclassS 9 1) { readyS 0x7FC00000#32 0 0 with build := { Config.taken with snanBitIsOne := true } } =
      some ([.int 0x100#64], 0#5) := by decide

/-- R109: with BeforeRounding, 2^-126 - 2^-151 rounded up to 2^-126 underflows; with AfterRounding it does not. -/
theorem test_tininess :
    (round .beforeRounding .S false (.ratio (2 ^ 25 - 1) (2 ^ 151)) .rne).raised = 0b00011#5
      ∧ (round .afterRounding .S false (.ratio (2 ^ 25 - 1) (2 ^ 151)) .rne).raised = 0b00001#5
      ∧ (round .afterRounding .S false (.ratio (2 ^ 25 - 1) (2 ^ 151)) .rne).result = 0x00800000#32 := by decide

/-- R221, R223: a presented word runs in one step. -/
theorem test_step_runs_word :
    ∃ t, step ({ readyS 0x3F800000#32 0x40000000#32 0 with fflags := 0#5 }.withFetchWord 32 0x002081D3) = .next t
      ∧ readF 3 t = 0xFFFFFFFF40400000#64 ∧ t.inputs = [] := ⟨_, rfl, by decide⟩

/-- P1, 0x018: fflags reads 0x19 into x12; R223: the host clears fflags; R28: a write of fcsr sets both registers. -/
theorem test_host :
    ∃ t u v, step { State.reset with fflags := 0x19#5, inputs := [.readCsr .fflags 12] } = .next t ∧ readX 12 t = 0x19#64
      ∧ step { State.reset with fflags := 0x19#5, inputs := [.writeFflags 0] } = .next u ∧ u.fflags = 0#5
      ∧ step { State.reset with inputs := [.writeFcsr 0x45#32] } = .next v ∧ v.frm = 2#3 ∧ v.fflags = 5#5 :=
  ⟨_, _, _, rfl, by decide, rfl, by decide, rfl, by decide⟩

/-! ## Witnesses: inputs that meet the hypotheses of the obligations -/

/-- fp_enabled = 1, f1 = 1.0 and f2 = 3.0 boxed. -/
def enabled : State := readyS 0x3F800000#32 0x40400000#32 0x40400000#32

/-- A build with XLEN = 32 and no gate. -/
def rv32NoGate : State := { State.reset with build := { Config.taken with xlen := .rv32, gatePresent := false } }

/-- Equal but for lib_flags and lib_rm to the reset state, which it is not. -/
def otherLib : State := { State.reset with libFlags := 3#5, libRm := .rup }

theorem witness_OpcodeTableDecodesRowByRow :
    (∃ r ∈ opcodeTable, r.rv64Only = false ∧ r.matches 0x002081D3#32 = true)
      ∧ ∃ r ∈ opcodeTable, r.rv64Only = true ∧ r.matches 0xC0200053#32 = true := by decide

theorem witness_DecodeOfEncodeIsTheInstruction :
    (Instr.faddS 31 0 31 7).wf .rv32 = true ∧ (Instr.fcvtLS 0 31 5).wf .rv64 = true := by decide

theorem witness_EncodeOfDecodeIsTheWord : decode .rv32 0xFFFFFFCF#32 = .illegal
      ∧ decode .rv32 0xFBFFFFCF#32 = .op (.fnmaddD 31 31 31 31 7) := by decide

theorem witness_UnlistedFpWordsAreIllegal :
    opcodeField 0x06000053#32 = 0b1010011#7 ∧ decode .rv64 0x06000053#32 = .illegal
      ∧ opcodeField 0x04000043#32 = 0b1000011#7 ∧ opcodeField 0x00000047#32 = 0b1000111#7
      ∧ opcodeField 0x0000004B#32 = 0b1001011#7 ∧ opcodeField 0x0000004F#32 = 0b1001111#7 := by decide

theorem witness_OutsideInstructionsGoToTheirUnits :
    (∃ r ∈ elsewhereTable, r.rv64Only = false ∧ r.matches 0x00002007#32 = true)
      ∧ (∃ r ∈ elsewhereTable, r.rv64Only = true ∧ r.matches 0xE2000053#32 = true)
      ∧ (1#12 = 1#12 ∨ 1#12 = 2#12 ∨ 1#12 = 3#12) ∧ 7#3 ≠ 0#3 ∧ 7#3 ≠ 4#3 := by decide

theorem witness_StepRunsTheDecodedInstruction :
    (State.reset.withFetchWord 32 0x002081D3).inputs = .present 0x002081D3#32 :: []
      ∧ decode (State.reset.withFetchWord 32 0x002081D3).build.xlen 0x002081D3#32 = .op (.faddS 3 1 2 0) := by decide

theorem witness_StepOnWordsThatAreNoOperation :
    State.reset.inputs = [] ∧ (State.reset.withFetchWord 32 0x06000053).inputs = .present 0x06000053#32 :: []
      ∧ decode State.reset.build.xlen 0x06000053#32 = .illegal ∧ decode State.reset.build.xlen 0x00002007#32 = .elsewhere .load
      ∧ decode State.reset.build.xlen 0x00000000#32 = .foreign := by decide

theorem witness_FetchedWordIsPresentedNext : 0xFFFFFFFF < 2 ^ 32 := by decide

theorem witness_HostInteractionsChangeWhatTheySay : (1 : Reg) ≠ 31 ∧ (31 : Reg) ≠ 0#5 ∧ (0 : Reg) = 0#5 := by decide

theorem witness_OnlyTheHostClearsFlags :
    (∃ t, step (enabled.withFetchWord 32 0x1820F1D3) = .next t) ∧
      (∀ v rest, (enabled.withFetchWord 32 0x1820F1D3).inputs ≠ .writeFflags v :: rest) ∧
      (∀ v rest, (enabled.withFetchWord 32 0x1820F1D3).inputs ≠ .writeFcsr v :: rest) ∧
      ∀ rest, (enabled.withFetchWord 32 0x1820F1D3).inputs ≠ .reset :: rest :=
  ⟨⟨_, rfl⟩, by simp [State.withFetchWord], by simp [State.withFetchWord], by simp [State.withFetchWord]⟩

theorem witness_EveryStepKeepsTheInvariant :
    (enabled.withFetchWord 32 0x1820F1D3).Inv ∧ (∃ t, step (enabled.withFetchWord 32 0x1820F1D3) = .next t)
      ∧ rv32NoGate.Inv ∧ rv32NoGate.build.xlen = .rv32 := ⟨by decide, ⟨_, rfl⟩, by decide, rfl⟩

theorem witness_AfterResetOnlyClassifyRuns :
    gated State.reset.build (.faddS 3 1 2 0) = true ∧ gated State.reset.build (.fleD 3 1 2) = true := by decide

theorem witness_IntegerRegisterZeroIsHardwired : ∃ t, exec (.fclassS 0 1) enabled = .next t := ⟨_, rfl⟩

theorem witness_GateTrapsWhenFpIsDisabled :
    (Instr.faddS 3 1 2 5).wf State.reset.build.xlen = true ∧ State.reset.build.gatePresent = true
      ∧ gated State.reset.build (.faddS 3 1 2 5) = true ∧ State.reset.fpEnabled = false
      ∧ enabled.fpEnabled = true ∧ ∃ t, exec (.faddS 3 1 2 0) enabled = .next t :=
  ⟨by decide, by decide, by decide, by decide, by decide, _, rfl⟩

theorem witness_WithoutTheGateTheEnableIsIgnored :
    rv32NoGate.build.gatePresent = false ∧ (∃ t, exec (.faddS 3 1 2 0) rv32NoGate = .next t)
      ∧ exec (.fcvtLS 3 1 0) rv32NoGate = .refused .absentOperation := ⟨rfl, ⟨_, rfl⟩, rfl⟩

theorem witness_ClassificationFollowsItsGateParameter :
    State.reset.build.classifyGated = false
      ∧ ({ State.reset with build := { Config.taken with classifyGated := true } } : State).build.classifyGated = true
      ∧ ({ State.reset with build := { Config.taken with classifyGated := true } } : State).build.gatePresent = true
      ∧ ({ State.reset with build := { Config.taken with classifyGated := true } } : State).fpEnabled = false
      ∧ ({ enabled with build := { Config.taken with classifyGated := true } } : State).fpEnabled = true := by decide

theorem witness_ResolverMapsCodes :
    ({ State.reset with frm := 6#3 } : State).frm ≠ 7#3 ∧ ({ State.reset with frm := 7#3 } : State).frm = 7#3 := by decide

theorem witness_UnresolvableRoundingCodeTraps :
    (Instr.fcvtDW 3 1 5).wf enabled.build.xlen = true ∧ roundingCode (.fcvtDW 3 1 5) = some 5#3 ∧ resolve enabled 5#3 = none
      ∧ resolve { enabled with frm := 7#3 } 7#3 = none := by decide

theorem witness_MinMaxCompareClassifyIgnoreRounding :
    roundingCode (.fminS 3 1 2) = none ∧ ∃ t, exec (.fminS 3 1 2) enabled = .next t := ⟨rfl, _, rfl⟩

theorem witness_FlagsOnlyAccumulate :
    (∃ t, exec (.fdivS 3 1 2 0) enabled = .next t ∧ t.fflags = 1#5)
      ∧ ∃ t, exec (.fdivS 3 1 2 5) enabled = .next t ∧ t.outcomes = .trap .illegalInstruction :: enabled.outcomes :=
  ⟨⟨_, rfl, by decide⟩, _, rfl, rfl⟩

theorem witness_OperationsWriteOnlyFlagsAndLibState :
    (∃ t, exec (.fdivS 3 1 2 0) enabled = .next t)
      ∧ ∃ t, exec (.fdivS 3 1 2 5) enabled = .next t ∧ t.outcomes = .trap .illegalInstruction :: enabled.outcomes :=
  ⟨⟨_, rfl⟩, _, rfl, rfl⟩

theorem witness_FlagContributionIsIndependentOfFlags : ∃ t, exec (.fdivS 3 1 2 0) enabled = .next t := ⟨_, rfl⟩

theorem witness_OperationsRaiseOnlyTheListedFlagSets :
    ∃ t, exec (.fdivS 3 1 4 0) { enabled with f := enabled.f.set 4 0xFFFFFFFF00000000#64 } = .next t ∧ t.fflags = 0b01000#5 :=
  ⟨_, rfl, by decide⟩

theorem witness_LibStateIsNeverObservable : SameButLib State.reset otherLib ∧ State.reset ≠ otherLib := ⟨rfl, by decide⟩

theorem witness_OutcomeIsAFunctionOfTheRequest :
    (∃ t, exec (.faddS 3 1 2 0) enabled = .next t) ∧ ({ enabled with libRm := .rup, inputs := [.reset] } : State).build = enabled.build
      ∧ ({ enabled with libRm := .rup, inputs := [.reset] } : State).f = enabled.f
      ∧ ({ enabled with build := { Config.taken with nanMode := .propagate } } : State).build.nanMode = .propagate :=
  ⟨⟨_, rfl⟩, rfl, rfl, rfl⟩

theorem witness_EveryRequestCompletesTrapsOrIsRefused :
    (Instr.faddS 3 1 2 0).wf enabled.build.xlen = true ∧ (Instr.fcvtLuD 3 1 0).wf rv32NoGate.build.xlen = false := by decide

theorem witness_OperationsCompleteExactlyWhenEnabled :
    (Instr.faddS 3 1 2 7).wf enabled.build.xlen = true ∧ GatePasses (gated enabled.build (.faddS 3 1 2 7)) enabled
      ∧ roundingCode (.faddS 3 1 2 7) = some 7#3 ∧ resolve enabled 7#3 = some .rne :=
  ⟨by decide, .inr (.inr rfl), rfl, by decide⟩

theorem witness_ReturningToATrappedOperationTrapsAgain :
    Trapped State.reset (exec (.faddS 3 1 2 0) State.reset) ∧ ∃ t, exec (.faddS 3 1 2 0) State.reset = .next t := ⟨rfl, _, rfl⟩

theorem witness_PackingTheValueGivesThePatternBack :
    isNaN .S 0x80000001#32 = false ∧ isInf .S 0x80000001#32 = false ∧ isNaN .D 0x7FEFFFFFFFFFFFFF#64 = false
      ∧ isInf .D 0x7FEFFFFFFFFFFFFF#64 = false := by decide

theorem witness_RoundingMatchesTheReals : (0 : Nat) < 1 := by decide

theorem witness_NaNDrawsAreExactlyTheQuietNaNs :
    isQNaN Config.taken .S 0xFFFFFFFF#32 = true ∧ isQNaN Config.taken .D 0x7FF8000000000000#64 = true
      ∧ isQNaN { Config.taken with snanBitIsOne := true } .S 0x7F800001#32 = true := by decide

theorem witness_BoxingAdapterReadsAndWritesSingles :
    (0xFFFFFFFF00000000#64).toNat / 2 ^ 32 = 0xFFFFFFFF ∧ (0xFFFFFFFEFFFFFFFF#64).toNat / 2 ^ 32 ≠ 0xFFFFFFFF := by decide

/-- The gate passes and every code from 0 to 4, and 7, resolves: the hypotheses of the statements of results. -/
theorem witness_gate_and_resolver :
    GatePasses true enabled ∧ resolve enabled 0#3 = some .rne ∧ resolve enabled 4#3 = some .rmm
      ∧ resolve { enabled with frm := 2#3 } 7#3 = some .rdn := ⟨.inr (.inr rfl), by decide, by decide, by decide⟩

theorem witness_FusedMultiplyAddDeliversTheSpecResult : GatePasses true enabled ∧ resolve enabled 3#3 = some .rup :=
  ⟨.inr (.inr rfl), by decide⟩

theorem witness_AddAndSubtractDeliverTheSpecResult : GatePasses true enabled ∧ resolve enabled 2#3 = some .rdn :=
  ⟨.inr (.inr rfl), by decide⟩

theorem witness_MultiplyDeliversTheSpecResult : GatePasses true enabled ∧ resolve enabled 1#3 = some .rtz :=
  ⟨.inr (.inr rfl), by decide⟩

theorem witness_DivideDeliversTheSpecResult : GatePasses true enabled ∧ resolve enabled 0#3 = some .rne :=
  ⟨.inr (.inr rfl), by decide⟩

theorem witness_SquareRootDeliversTheSpecResult : GatePasses true enabled ∧ resolve enabled 4#3 = some .rmm :=
  ⟨.inr (.inr rfl), by decide⟩

theorem witness_SquareRootRaisesAtMostInexactOrInvalid :
    ∃ t, exec (Reference.sqrtInstr .S 3 2 0) enabled = .next t ∧ t.fflags = 1#5 := ⟨_, rfl, by decide +kernel⟩

theorem witness_MinAndMaxDeliverTheSpecResult : GatePasses true { rv32NoGate with frm := 7#3 } := .inl rfl

theorem witness_ComparisonsDeliverTheSpecResult : GatePasses true { enabled with frm := 7#3 } := .inr (.inr rfl)

theorem witness_FloatToIntegerDeliversTheSpecResult :
    GatePasses true enabled ∧ resolve enabled 0#3 = some .rne ∧ enabled.build.xlen = .rv64
      ∧ GatePasses true rv32NoGate ∧ resolve rv32NoGate 0#3 = some .rne := ⟨.inr (.inr rfl), by decide, rfl, .inl rfl, by decide⟩

theorem witness_IntegerToFloatDeliversTheSpecResult :
    GatePasses true enabled ∧ resolve enabled 0#3 = some .rne ∧ enabled.build.xlen = .rv64
      ∧ GatePasses true rv32NoGate ∧ resolve rv32NoGate 0#3 = some .rne := ⟨.inr (.inr rfl), by decide, rfl, .inl rfl, by decide⟩

theorem witness_IntegerToFloatRaisesAtMostInexact :
    (∃ t, exec (Reference.fromIntInstr .S .w 3 1 0) (ready 0 0 0 0x1000001#64) = .next t ∧ t.fflags = 1#5)
      ∧ ∃ t, exec (Reference.fromIntInstr .D .w 3 1 0) (ready 0 0 0 0x1000001#64) = .next t :=
  ⟨⟨_, rfl, by decide⟩, _, rfl⟩

theorem witness_NarrowingDeliversTheSpecResult : GatePasses true enabled ∧ resolve enabled 0#3 = some .rne :=
  ⟨.inr (.inr rfl), by decide⟩

theorem witness_WideningDeliversTheSpecResult :
    GatePasses true enabled ∧ resolve enabled 0#3 = some .rne ∧ isNaN .S 0x80000001#32 = false
      ∧ isInf .S 0x80000001#32 = false := ⟨.inr (.inr rfl), by decide, by decide, by decide⟩

theorem witness_ClassifyDeliversTheClassTable : GatePasses State.reset.build.classifyGated State.reset := .inr (.inl rfl)

theorem witness_ExactlyOneClassBitIsSet :
    GatePasses State.reset.build.classifyGated State.reset
      ∧ Config.taken.snanBitIsOne = ({ Config.taken with nanMode := .propagate } : Config).snanBitIsOne
      ∧ ∃ t, exec (Reference.classInstr .S 3 1) State.reset = .next t := ⟨.inr (.inl rfl), rfl, _, rfl⟩

/-- FNMADD on 1, 3, 3 beside FMADD on -1, 3, -3. -/
theorem witness_FusedVariantsAreFmaddOnFlippedOperands :
    (∃ t, exec (Reference.fusedInstr .S true true 9 1 2 3 0) enabled = .next t)
      ∧ readPort .S 1 (readyS 0xBF800000#32 0x40400000#32 0xC0400000#32) = Machine.flip .S (readPort .S 1 enabled)
      ∧ readPort .S 2 (readyS 0xBF800000#32 0x40400000#32 0xC0400000#32) = readPort .S 2 enabled
      ∧ readPort .S 3 (readyS 0xBF800000#32 0x40400000#32 0xC0400000#32) = Machine.flip .S (readPort .S 3 enabled)
      ∧ (readyS 0xBF800000#32 0x40400000#32 0xC0400000#32).build = enabled.build :=
  ⟨⟨_, rfl⟩, by decide, by decide, by decide, rfl⟩

theorem witness_ConversionsRoundTrip :
    |(2 ^ 24 : Int)| ≤ 2 ^ precision .S ∧ IntType.w.min ≤ 2 ^ 24 ∧ (2 ^ 24 : Int) ≤ IntType.w.max ∧ isNaN .S 0x7F800000#32 = false := by
  refine ⟨?_, ?_, ?_, by decide⟩ <;> norm_num [precision, fracBits, IntType.min, IntType.max]

end Sys2Proof.Tests
end

/-! # The state family: what one operation can do to the state, and the statements that follow

`ExecEffect` says once what `exec` can do to a state (60_exceptions.md R208 and 40_control_path.md R80); the invariant, the frame and the
flags are read off it. That lib_flags and lib_rm are never observed (10_state.md R44) is a congruence: every update of the state keeps
`SameButLib`. -/

namespace Sys2Proof.Machine

/-! ## What an operation can do -/

/-- The next states of an operation: the trap, a result handed back under some directive in lib_rm, or a class vector. An operation
outside the Resolver is the case of the directive that lib_rm already holds. -/
inductive ExecEffect (s : State) : State → Prop where
  | trap : ExecEffect s (takeTrap s)
  | fp (dir : Directive) (fmt : Fmt) (rd : Reg) (p : Raised (FpResult fmt)) : ExecEffect s (finishFp fmt rd p (setLibRm dir s))
  | int (dir : Directive) (rd : Reg) (p : Raised XWord) : ExecEffect s (finishInt rd p (setLibRm dir s))
  | classVector (rd : Reg) (v : XWord) : ExecEffect s (completeInt rd v s)

theorem behindXlen_next {i : Instr} {op : State → StepResult} {s t : State} (h : behindXlen i op s = .next t) : op s = .next t := by
  cases hw : i.wf s.build.xlen with
  | true => rwa [behindXlen_of_wf hw] at h
  | false => simp [behindXlen_of_not_wf hw] at h

theorem ExecEffect.of_roundingOp {rm : RoundingCode} {body : Directive → State → State} {s t : State}
    (hbody : ∀ dir, ExecEffect s (body dir (setLibRm dir s))) (h : roundingOp rm body s = .next t) : ExecEffect s t := by
  obtain ⟨-, ht⟩ | ⟨-, -, ht⟩ | ⟨dir, -, -, ht⟩ := roundingOp_cases h <;> cases ht
  · exact .trap
  · exact .trap
  · exact hbody dir

theorem ExecEffect.of_plainOp {isGated : Bool} {body : State → State} {s t : State} (hbody : ExecEffect s (body s))
    (h : plainOp isGated body s = .next t) : ExecEffect s t := by
  obtain ⟨-, ht⟩ | ⟨-, ht⟩ := plainOp_cases h <;> cases ht
  · exact .trap
  · exact hbody

/-- Everything an instruction can do to the state. -/
theorem exec_effect {i : Instr} {s t : State} (h : exec i s = .next t) : ExecEffect s t := by
  obtain ⟨_, fmt, rd, p, -, -, he⟩ | ⟨_, rd, p, -, -, he⟩ | ⟨fmt, rd, p, -, -, -, he⟩ | ⟨rd, p, -, -, -, he⟩ | ⟨rd, p, -, -, -, he⟩ :=
    exec_shape i <;> rw [he] at h
  · refine .of_roundingOp (fun dir => ?_) (behindXlen_next h)
    exact .fp dir fmt rd (p dir s.build s.f s.x)
  · refine .of_roundingOp (fun dir => ?_) (behindXlen_next h)
    exact .int dir rd (p dir s.build s.f)
  · refine .of_plainOp ?_ h
    exact .fp s.libRm fmt rd (p s.build s.f)
  · refine .of_plainOp ?_ h
    exact .int s.libRm rd (p s.build s.f)
  · refine .of_plainOp ?_ h
    exact .classVector rd (p s.build s.f)

namespace ExecEffect

variable {s t : State}

theorem keepsControl (h : ExecEffect s t) : Reference.KeepsControl s t := by
  cases h with
  | trap => exact ⟨rfl, rfl, rfl, rfl⟩
  | fp dir fmt rd p =>
    obtain ⟨-, -, -, -, -, -, -, hfrm, hen, hbuild, hin⟩ := finishFp_spec fmt rd p (setLibRm dir s)
    exact ⟨hfrm, hen, hbuild, hin⟩
  | int dir rd p => simp [Reference.KeepsControl, finishInt_eq]
  | classVector rd v => simp [Reference.KeepsControl]

theorem libFlags (h : ExecEffect s t) : t.libFlags = 0#5 ∨ t.libFlags = s.libFlags := by
  cases h with
  | trap => exact .inr rfl
  | fp dir fmt rd p =>
    obtain ⟨-, -, -, -, -, hlib, -⟩ := finishFp_spec fmt rd p (setLibRm dir s)
    exact .inl hlib
  | int dir rd p => simp [finishInt_eq]
  | classVector rd v => simp

/-- The integer registers are left alone or one of them is written through `writeX`. -/
theorem x_eq (h : ExecEffect s t) : t.x = s.x ∨ ∃ rd v, t.x = (writeX rd v s).x := by
  cases h with
  | trap => exact .inl rfl
  | fp dir fmt rd p =>
    obtain ⟨-, -, -, hx, -⟩ := finishFp_spec fmt rd p (setLibRm dir s)
    exact .inl hx
  | int dir rd p => exact .inr ⟨rd, p.result, by simp only [finishInt_eq, completeInt_x]; unfold writeX; split <;> rfl⟩
  | classVector rd v => exact .inr ⟨rd, v, completeInt_x rd v s⟩

/-- An operation traps and changes nothing but the record, or it ORs bits into fflags and hands back an outcome that is no trap. -/
theorem trap_or_completes (h : ExecEffect s t) :
    t = takeTrap s ∨ ∃ f o, t.fflags = s.fflags ||| f ∧ t.outcomes = o :: s.outcomes ∧ ∀ c, o ≠ .trap c := by
  cases h with
  | trap => exact .inl rfl
  | fp dir fmt rd p =>
    obtain ⟨v, hout, -, -, hfl, -⟩ := finishFp_spec fmt rd p (setLibRm dir s)
    exact .inr ⟨p.raised, fpOutcome fmt v, hfl, hout, by cases fmt <;> simp [fpOutcome]⟩
  | int dir rd p => exact .inr ⟨p.raised, .int p.result, by simp [finishInt_eq]⟩
  | classVector rd v => exact .inr ⟨0#5, .int v, by simp⟩

theorem eq_takeTrap_of_outcomes (h : ExecEffect s t) {c : TrapCause} (hc : t.outcomes = .trap c :: s.outcomes) : t = takeTrap s := by
  obtain ht | ⟨f, o, -, ho, hne⟩ := h.trap_or_completes
  · exact ht
  · rw [ho] at hc
    exact absurd (List.cons.inj hc).1 (hne c)

end ExecEffect

/-! ## The invariant -/

theorem writeX_x_get_zero (r : Reg) (v : XWord) (s : State) : (writeX r v s).x.get 0 = s.x.get 0 := by
  by_cases hr : r = 0#5
  · rw [hr, writeX_x_zero]
  · have hn : r.toNat ≠ 0 := fun e => hr (BitVec.eq_of_toNat_eq e)
    simp [writeX_x_of_ne hr, Vector.get_eq_getElem, hn]

theorem truncXlen_rv32_lt (v : XWord) : (truncXlen .rv32 v).toNat < 2 ^ 32 := by
  have h : (truncXlen .rv32 v).toNat ≤ 0xFFFFFFFF := by
    simpa [truncXlen, BitVec.toNat_and] using Nat.and_le_right
  omega

theorem writeX_x_get_lt {s : State} (hb : s.build.xlen = .rv32) (hx : ∀ q : Fin 32, (s.x.get q).toNat < 2 ^ 32) (r : Reg) (v : XWord)
    (q : Fin 32) : ((writeX r v s).x.get q).toNat < 2 ^ 32 := by
  by_cases hr : r = 0#5
  · rw [hr, writeX_x_zero]
    exact hx q
  · rw [writeX_x_of_ne hr, hb, Vector.get_eq_getElem, Vector.getElem_set]
    split
    · exact truncXlen_rv32_lt v
    · exact hx q

/-- The invariant looks at lib_flags, the width and the integer registers only. -/
theorem State.Inv.congr {s t : State} (h : s.Inv) (hl : t.libFlags = 0#5) (hb : t.build = s.build) (hx : t.x = s.x) : t.Inv := by
  obtain ⟨-, h0, h32⟩ := h
  exact ⟨hl, hx ▸ h0, fun hr q => hx ▸ h32 (hb ▸ hr) q⟩

theorem State.Inv.writeX {s : State} (h : s.Inv) (r : Reg) (v : XWord) : (writeX r v s).Inv := by
  obtain ⟨hl, h0, h32⟩ := h
  refine ⟨by rw [writeX_libFlags, hl], by rw [writeX_x_get_zero, h0], fun hb q => ?_⟩
  rw [writeX_build] at hb
  exact writeX_x_get_lt hb (h32 hb) r v q

theorem State.Inv.dropInput {s : State} (h : s.Inv) : (dropInput s).Inv := h

theorem State.Inv.of_execEffect {s t : State} (h : s.Inv) (he : ExecEffect s t) : t.Inv := by
  obtain ⟨-, -, hb, -⟩ := he.keepsControl
  have hl : t.libFlags = 0#5 := he.libFlags.elim id (·.trans h.1)
  obtain hx | ⟨rd, v, hx⟩ := he.x_eq
  · exact h.congr hl hb hx
  · exact (h.writeX rd v).congr hl (by rw [hb, writeX_build]) hx

theorem State.Inv.hostWrite {s : State} (h : s.Inv) (a : HostAction) : (hostWrite a s).Inv := by
  cases a with
  | readCsr csr rd => exact h.writeX rd _
  | loadX r v => exact h.writeX r v
  | reset => exact h.congr rfl rfl rfl
  | _ => exact h

/-- Everything a step that answers a next state can do: nothing, a move of the host, the decoder's trap, or an operation. -/
theorem step_next_cases {s t : State} (h : step s = .next t) :
    t = s ∨ (∃ a, t = hostWrite a (dropInput s)) ∨ t = takeTrap (dropInput s) ∨ ∃ i, exec i (dropInput s) = .next t := by
  unfold step at h
  split at h
  · cases h
    exact .inl rfl
  · unfold presentWord at h
    split at h
    · exact .inr (.inr (.inr ⟨_, h⟩))
    · cases h
    · cases h
      exact .inr (.inr (.inl rfl))
    · cases h
  · cases h
    exact .inr (.inl ⟨_, rfl⟩)

/-- Settles O14: lib_flags, x0's storage and the 32-bit registers, for each thing a step can do. -/
theorem everyStepKeepsTheInvariant : Obligations.EveryStepKeepsTheInvariant := by
  intro s t hs h
  have hd : (dropInput s).Inv := hs.dropInput
  obtain rfl | ⟨a, rfl⟩ | rfl | ⟨i, hi⟩ := step_next_cases h
  · exact hs
  · exact hd.hostWrite a
  · exact hd.of_execEffect .trap
  · exact hd.of_execEffect (exec_effect hi)

/-- Settles O13: every integer register holds 0 in the reset state. -/
theorem invariantHoldsAfterReset : Obligations.InvariantHoldsAfterReset := by
  intro c
  have hx (q : Fin 32) : (State.resetOf c).x.get q = 0#64 := by simp [State.resetOf, Vector.get_eq_getElem]
  exact ⟨rfl, hx 0, fun _ q => by simp [hx q]⟩

/-- Settles O12: the reset state and the step of a CPU reset, field by field. -/
theorem resetGivesTheBlockItsValues : Obligations.ResetGivesTheBlockItsValues :=
  ⟨fun _ => ⟨rfl, rfl, rfl, rfl, rfl, rfl⟩, rfl, fun _ _ => rfl⟩

/-! ## Registers, flags and the frame of an operation -/

/-- Settles O16: `readX` hardwires x0, and `writeX` never writes its storage. -/
theorem integerRegisterZeroIsHardwired : Obligations.IntegerRegisterZeroIsHardwired := by
  refine ⟨readX_zero, fun i s t h => ?_⟩
  obtain hx | ⟨rd, v, hx⟩ := (exec_effect h).x_eq
  · rw [hx]
  · rw [hx, writeX_x_get_zero]

/-- Settles O23: a trap ORs in nothing, and an operation that completes hands back no trap. -/
theorem flagsOnlyAccumulate : Obligations.FlagsOnlyAccumulate := by
  intro i s t h
  obtain rfl | ⟨f, o, hf, ho, hne⟩ := (exec_effect h).trap_or_completes
  · exact ⟨0#5, by simp, fun _ => rfl⟩
  · refine ⟨f, hf, fun ⟨c, hc⟩ => ?_⟩
    rw [ho] at hc
    exact absurd (List.cons.inj hc).1 (hne c)

/-- Settles O24: the control fields are never written, and an operation that hands back a trap took the trap. -/
theorem operationsWriteOnlyFlagsAndLibState : Obligations.OperationsWriteOnlyFlagsAndLibState := by
  intro i s t h
  have he := exec_effect h
  refine ⟨he.keepsControl, fun c hc => ?_⟩
  rw [he.eq_takeTrap_of_outcomes hc]
  rfl

/-! ## The boxing adapter (10_state.md R34) -/

theorem extractLsb'_low_toNat (r : FpWord) : (r.extractLsb' 0 32).toNat = r.toNat % 2 ^ 32 := by
  rw [BitVec.extractLsb'_toNat, Nat.shiftRight_zero]

theorem extractLsb'_high_eq_ones_iff (r : FpWord) : r.extractLsb' 32 32 = 0xFFFFFFFF#32 ↔ r.toNat / 2 ^ 32 = 0xFFFFFFFF := by
  have hlt : r.toNat / 2 ^ 32 < 2 ^ 32 := by
    have := r.isLt
    omega
  rw [← BitVec.toNat_inj, BitVec.extractLsb'_toNat, Nat.shiftRight_eq_div_pow, Nat.mod_eq_of_lt hlt]
  rfl

theorem readS_nanBox_of_boxed {r : FpWord} (h : r.toNat / 2 ^ 32 = 0xFFFFFFFF) : (readS .nanBox r).toNat = r.toNat % 2 ^ 32 := by
  simp only [readS, if_pos ((extractLsb'_high_eq_ones_iff r).mpr h), extractLsb'_low_toNat]

theorem readS_nanBox_of_not_boxed {r : FpWord} (h : r.toNat / 2 ^ 32 ≠ 0xFFFFFFFF) : readS .nanBox r = 0x7FC00000#32 := by
  simp only [readS, if_neg (mt (extractLsb'_high_eq_ones_iff r).mp h)]

theorem writeS_truncate_toNat (v : BitVec 32) : (writeS .truncate v).toNat = v.toNat :=
  BitVec.toNat_setWidth_of_le (by decide)

/-- Settles O40: the two modes as numbers; that the ports and results go through the adapter is their definition. -/
theorem boxingAdapterReadsAndWritesSingles : Obligations.BoxingAdapterReadsAndWritesSingles :=
  ⟨fun _ => readS_nanBox_of_boxed, fun _ => readS_nanBox_of_not_boxed, extractLsb'_low_toNat,
    fun v => toNat_append_eq 0xFFFFFFFF#32 v, writeS_truncate_toNat,
    fun _ _ => rfl, fun _ _ => rfl, fun _ _ => rfl, fun _ _ => rfl⟩

/-! ## lib_flags and lib_rm are never observed (10_state.md R44) -/

namespace SameButLib

variable {a b : State}

theorem update_eq (h : SameButLib a b) : { a with libFlags := b.libFlags, libRm := b.libRm } = b := h

theorem build_eq (h : SameButLib a b) : a.build = b.build := (congrArg State.build h.update_eq :)
theorem frm_eq (h : SameButLib a b) : a.frm = b.frm := (congrArg State.frm h.update_eq :)
theorem fflags_eq (h : SameButLib a b) : a.fflags = b.fflags := (congrArg State.fflags h.update_eq :)
theorem fpEnabled_eq (h : SameButLib a b) : a.fpEnabled = b.fpEnabled := (congrArg State.fpEnabled h.update_eq :)
theorem f_eq (h : SameButLib a b) : a.f = b.f := (congrArg State.f h.update_eq :)
theorem x_eq (h : SameButLib a b) : a.x = b.x := (congrArg State.x h.update_eq :)
theorem inputs_eq (h : SameButLib a b) : a.inputs = b.inputs := (congrArg State.inputs h.update_eq :)
theorem draws_eq (h : SameButLib a b) : a.draws = b.draws := (congrArg State.draws h.update_eq :)

/-- An update that commutes with every change of lib_flags and lib_rm, up to what it leaves in them, keeps `SameButLib`. -/
theorem map {u : State → State} (h : SameButLib a b)
    (hu : ∀ s fl dir, SameButLib (u s) (u { s with libFlags := fl, libRm := dir })) : SameButLib (u a) (u b) := by
  simpa only [h.update_eq] using hu a b.libFlags b.libRm

theorem setLibRm (h : SameButLib a b) (dir : Directive) : SameButLib (setLibRm dir a) (setLibRm dir b) :=
  h.map fun _ _ _ => rfl

theorem accumulate (h : SameButLib a b) (raised : FlagSet) : SameButLib (accumulate raised a) (accumulate raised b) :=
  h.map fun _ _ _ => by simp only [accumulate_eq]; rfl

theorem record (h : SameButLib a b) (o : OpOutcome) : SameButLib (record o a) (record o b) := h.map fun _ _ _ => rfl

theorem takeTrap (h : SameButLib a b) : SameButLib (takeTrap a) (takeTrap b) := h.record _

theorem writeF (h : SameButLib a b) (r : Reg) (v : FpWord) : SameButLib (writeF r v a) (writeF r v b) := h.map fun _ _ _ => rfl

theorem writeX (h : SameButLib a b) (r : Reg) (v : XWord) : SameButLib (writeX r v a) (writeX r v b) :=
  h.map fun _ _ _ => by
    unfold Machine.writeX
    split <;> rfl

theorem countDraw (h : SameButLib a b) : SameButLib (countDraw a) (countDraw b) :=
  h.map fun _ _ _ => by
    unfold Machine.countDraw
    dsimp only
    split <;> rfl

theorem dropInput (h : SameButLib a b) : SameButLib (dropInput a) (dropInput b) := h.map fun _ _ _ => rfl

theorem completeFp (h : SameButLib a b) (fmt : Fmt) (rd : Reg) (v : Pattern fmt) :
    SameButLib (completeFp fmt rd v a) (completeFp fmt rd v b) := by
  unfold Machine.completeFp
  rw [h.build_eq]
  exact (h.writeF rd _).record _

theorem completeInt (h : SameButLib a b) (rd : Reg) (v : XWord) : SameButLib (completeInt rd v a) (completeInt rd v b) :=
  (h.writeX rd v).record _

theorem nanPattern_eq (h : SameButLib a b) (fmt : Fmt) : nanPattern fmt a = nanPattern fmt b := by
  simp only [nanPattern, h.build_eq, h.draws_eq]

theorem finishFp (h : SameButLib a b) (fmt : Fmt) (rd : Reg) (p : Raised (FpResult fmt)) :
    SameButLib (finishFp fmt rd p a) (finishFp fmt rd p b) := by
  have hacc := h.accumulate p.raised
  cases hp : p.result with
  | number v => simpa only [finishFp_number hp] using hacc.completeFp fmt rd v
  | nan => simpa only [finishFp_nan hp, hacc.nanPattern_eq fmt] using hacc.countDraw.completeFp fmt rd _

theorem finishInt (h : SameButLib a b) (rd : Reg) (p : Raised XWord) : SameButLib (finishInt rd p a) (finishInt rd p b) :=
  (h.accumulate p.raised).completeInt rd p.result

theorem gateFails_eq (h : SameButLib a b) (isGated : Bool) : gateFails isGated a = gateFails isGated b := by
  simp only [gateFails, h.build_eq, h.fpEnabled_eq]

theorem resolve_eq (h : SameButLib a b) (rm : RoundingCode) : resolve a rm = resolve b rm := by
  simp only [resolve, h.frm_eq]

/-! The three shapes of an operation answer results that agree but for lib_flags and lib_rm. -/

theorem roundingOp (h : SameButLib a b) (rm : RoundingCode) {body : Directive → State → State}
    (hbody : ∀ dir s t, SameButLib s t → SameButLib (body dir s) (body dir t)) :
    SameResultButLib (roundingOp rm body a) (roundingOp rm body b) := by
  cases hg : gateFails true b with
  | true =>
    rw [roundingOp_gate hg, roundingOp_gate ((h.gateFails_eq true).trans hg)]
    exact h.takeTrap
  | false =>
    cases hr : resolve b rm with
    | none =>
      rw [roundingOp_unresolved hr, roundingOp_unresolved ((h.resolve_eq rm).trans hr)]
      exact h.takeTrap
    | some dir =>
      rw [roundingOp_runs hg hr, roundingOp_runs ((h.gateFails_eq true).trans hg) ((h.resolve_eq rm).trans hr)]
      exact hbody dir _ _ (h.setLibRm dir)

theorem plainOp (h : SameButLib a b) (isGated : Bool) {body : State → State}
    (hbody : SameButLib (body a) (body b)) : SameResultButLib (plainOp isGated body a) (plainOp isGated body b) := by
  cases hg : gateFails isGated b with
  | true =>
    rw [plainOp_gate hg, plainOp_gate ((h.gateFails_eq isGated).trans hg)]
    exact h.takeTrap
  | false =>
    rw [plainOp_runs hg, plainOp_runs ((h.gateFails_eq isGated).trans hg)]
    exact hbody

theorem behindXlen (h : SameButLib a b) (i : Instr) {op : State → StepResult} (hop : SameResultButLib (op a) (op b)) :
    SameResultButLib (behindXlen i op a) (behindXlen i op b) := by
  have hw : i.wf a.build.xlen = i.wf b.build.xlen := by rw [h.build_eq]
  cases hb : i.wf b.build.xlen with
  | true => rwa [behindXlen_of_wf hb, behindXlen_of_wf (hw.trans hb)]
  | false =>
    rw [behindXlen_of_not_wf hb, behindXlen_of_not_wf (hw.trans hb)]
    rfl

/-- A primitive sees the build and the register files only, so no instruction looks at lib_flags or lib_rm. -/
theorem exec (h : SameButLib a b) (i : Instr) : SameResultButLib (exec i a) (exec i b) := by
  obtain ⟨rm, fmt, rd, p, -, -, he⟩ | ⟨rm, rd, p, -, -, he⟩ | ⟨fmt, rd, p, -, -, -, he⟩ | ⟨rd, p, -, -, -, he⟩ | ⟨rd, p, -, -, -, he⟩ :=
    exec_shape i
  · rw [he]
    refine h.behindXlen i (h.roundingOp rm fun dir s t hs => ?_)
    rw [hs.build_eq, hs.f_eq, hs.x_eq]
    exact hs.finishFp fmt rd _
  · rw [he]
    refine h.behindXlen i (h.roundingOp rm fun dir s t hs => ?_)
    rw [hs.build_eq, hs.f_eq]
    exact hs.finishInt rd _
  · rw [he]
    refine h.plainOp true ?_
    rw [h.build_eq, h.f_eq]
    exact h.finishFp fmt rd _
  · rw [he]
    refine h.plainOp true ?_
    rw [h.build_eq, h.f_eq]
    exact h.finishInt rd _
  · rw [he, he, h.build_eq]
    refine h.plainOp _ ?_
    rw [h.build_eq, h.f_eq]
    exact h.completeInt rd _

theorem presentWord (h : SameButLib a b) (w : InstrWord) : SameResultButLib (presentWord w a) (presentWord w b) := by
  unfold Machine.presentWord
  rw [h.build_eq]
  split
  · exact h.exec _
  · rfl
  · exact h.takeTrap
  · rfl

theorem csrValue_eq (h : SameButLib a b) (csr : Csr) : csrValue csr a = csrValue csr b := by
  cases csr <;> simp only [csrValue, h.fflags_eq, h.frm_eq]

theorem hostWrite (h : SameButLib a b) (act : HostAction) : SameButLib (hostWrite act a) (hostWrite act b) := by
  cases act with
  | readCsr csr rd =>
    simp only [Machine.hostWrite, h.csrValue_eq]
    exact h.writeX rd _
  | loadX r v => exact h.writeX r v
  | _ => exact h.map fun _ _ _ => rfl

theorem step (h : SameButLib a b) : SameResultButLib (step a) (step b) := by
  unfold Machine.step
  rw [h.inputs_eq]
  split
  · exact h
  · exact h.dropInput.presentWord _
  · exact h.dropInput.hostWrite _

end SameButLib

theorem run_succ_of_next {M : Host.Core} {s t : M.State} (h : M.step s = .next t) (k : Nat) : M.run (k + 1) s = M.run k t := by
  simp only [Host.Core.run, h]

theorem run_succ_of_refused {M : Host.Core} {s : M.State} {q : M.Refusal} (h : M.step s = .refused q) (k : Nat) :
    M.run (k + 1) s = .refused q := by
  simp only [Host.Core.run, h]

/-- Related results are both next states, which are related, or the same refusal. -/
theorem SameResultButLib.next_or_refused {r q : StepResult} (h : SameResultButLib r q) :
    (∃ a b, r = .next a ∧ q = .next b ∧ SameButLib a b) ∨ ∃ c, r = .refused c ∧ q = .refused c := by
  match r, q, h with
  | .next a, .next b, h => exact .inl ⟨a, b, rfl, rfl, h⟩
  | .refused c, .refused d, h => exact .inr ⟨c, rfl, by rw [show c = d from h]⟩

/-- Two related states step to related results, so their runs stay together. -/
theorem SameButLib.run (k : Nat) {a b : State} (h : SameButLib a b) :
    SameResultButLib (Host.Core.run Sys2Proof.core k a) (Host.Core.run Sys2Proof.core k b) := by
  induction k generalizing a b with
  | zero => exact h
  | succ k ih =>
    obtain ⟨a', b', ha, hb, hab⟩ | ⟨c, ha, hb⟩ := h.step.next_or_refused
    · rw [run_succ_of_next (M := Sys2Proof.core) ha, run_succ_of_next (M := Sys2Proof.core) hb]
      exact ih hab
    · rw [run_succ_of_refused (M := Sys2Proof.core) ha, run_succ_of_refused (M := Sys2Proof.core) hb]
      rfl

/-- Settles O27, by induction on the number of steps: each step keeps the relation. -/
theorem libStateIsNeverObservable : Obligations.LibStateIsNeverObservable := fun k _ _ h => h.run k

end Sys2Proof.Machine

/-! # The encoding family: the decoder, the encoder and the opcode table agree

The five major opcodes, the 48 rows of 30_encoding.md R67 and the rows of R68 are tied to each other in both directions. From words to
instructions: a word is the encoding of its fields (`encodeR_fields`), so a word of a row is the encoding of an instruction of the row
(`RowCovers`), and the decoder's answer says what the word is (`decode_isJustified`). From instructions to words: the decoder reads every
encoding back (`decodeOfEncodeIsTheInstruction`), and every encoding is in its own row (`tableRow`). -/

namespace Sys2Proof

/-! ## Words and their fields (30_encoding.md R61, R62) -/

/-- A word under OP-FP is the R-format word of its fields. -/
theorem encodeR_fields {w : InstrWord} (hop : opcodeField w = 0b1010011#7) :
    encodeR (funct7Field w) (rs2Field w) (rs1Field w) (rmField w) (rdField w) = w := by
  have hop := congrArg BitVec.toNat hop
  apply BitVec.eq_of_toNat_eq
  simp only [opcodeField, funct7Field, rs2Field, rs1Field, rmField, rdField, encodeR, BitVec.extractLsb'_toNat, Machine.toNat_append_eq,
    Nat.shiftRight_eq_div_pow, BitVec.toNat_ofNat] at hop ⊢
  have := w.isLt
  omega

/-- Every word is the R4-format word of its fields. -/
theorem encodeR4_fields (w : InstrWord) :
    encodeR4 (opcodeField w) (fmtField w) (rs3Field w) (rs2Field w) (rs1Field w) (rmField w) (rdField w) = w := by
  apply BitVec.eq_of_toNat_eq
  simp only [opcodeField, fmtField, rs3Field, rs2Field, rs1Field, rmField, rdField, encodeR4, BitVec.extractLsb'_toNat,
    Machine.toNat_append_eq, Nat.shiftRight_eq_div_pow]
  have := w.isLt
  omega

/-- A field that the mask of a row keeps whole is the pattern's in every word that matches the row. -/
theorem extractLsb'_eq_of_matches {w m p : InstrWord} {start len : Nat} (hm : m.extractLsb' start len = BitVec.allOnes len)
    (h : (w &&& m == p) = true) : w.extractLsb' start len = p.extractLsb' start len := by
  rw [← eq_of_beq h, BitVec.extractLsb'_and, hm, BitVec.and_allOnes]

/-! ## The decoder under one major opcode -/

theorem decode_of_opFp (xlen : Xlen) {w : InstrWord} (h : opcodeField w = 0b1010011#7) : decode xlen w = decodeOpFp xlen w := by
  simp [decode, h]

theorem decode_of_load (xlen : Xlen) {w : InstrWord} (h : opcodeField w = 0b0000111#7) : decode xlen w = decodeMemory .load w := by
  simp [decode, h]

theorem decode_of_store (xlen : Xlen) {w : InstrWord} (h : opcodeField w = 0b0100111#7) : decode xlen w = decodeMemory .store w := by
  simp [decode, h]

theorem decode_encodeR (xlen : Xlen) (f7 : BitVec 7) (rs2 rs1 : Reg) (f3 : RoundingCode) (rd : Reg) :
    decode xlen (encodeR f7 rs2 rs1 f3 rd) = decodeOpFp xlen (encodeR f7 rs2 rs1 f3 rd) :=
  decode_of_opFp xlen (opcodeField_encodeR f7 rs2 rs1 f3 rd)

/-! ## From an instruction to its word and back -/

theorem Instr.wf_iff {xlen : Xlen} {i : Instr} : i.wf xlen = true ↔ (i.needsRv64 = true → xlen = .rv64) := by
  cases h : i.needsRv64 <;> simp [Instr.wf, h]

/-- Settles O2: the fields of the instruction's word lead the decoder to its branch, format by format. -/
theorem decodeOfEncodeIsTheInstruction : Obligations.DecodeOfEncodeIsTheInstruction := by
  intro xlen i hwf
  cases i with
  | fmaddS | fmsubS | fnmsubS | fnmaddS | fmaddD | fmsubD | fnmsubD | fnmaddD => simp [encode, decode, decodeFused]
  | faddS | fsubS | fmulS | fdivS | faddD | fsubD | fmulD | fdivD => simp [encode, decode_encodeR, decodeOpFp]
  | fsqrtS | fsqrtD | fcvtSD | fcvtDS => simp [encode, decode_encodeR, decodeOpFp, decodeUnary]
  | fminS | fmaxS | fminD | fmaxD => simp [encode, decode_encodeR, decodeOpFp, decodeMinMax]
  | fleS | fltS | feqS | fleD | fltD | feqD => simp [encode, decode_encodeR, decodeOpFp, decodeCompare]
  | fclassS | fclassD => simp [encode, decode_encodeR, decodeOpFp, decodeClassify]
  | fcvtWS | fcvtWuS | fcvtSW | fcvtSWu | fcvtWD | fcvtWuD | fcvtDW | fcvtDWu =>
    simp [encode, decode_encodeR, decodeOpFp, decodeConvert]
  | fcvtLS | fcvtLuS | fcvtSL | fcvtSLu | fcvtLD | fcvtLuD | fcvtDL | fcvtDLu =>
    obtain rfl : xlen = .rv64 := Instr.wf_iff.mp hwf rfl
    simp [encode, decode_encodeR, decodeOpFp, decodeConvert, whenRv64_eq]

/-! ## What the decoder's answers mean -/

/-- The five major opcodes of the block, OP-FP and the fused ones (30_encoding.md R61, R62). -/
def IsFpOpcode (op : BitVec 7) : Prop :=
  op = 0b1010011#7 ∨ op = 0b1000011#7 ∨ op = 0b1000111#7 ∨ op = 0b1001011#7 ∨ op = 0b1001111#7

/-- The word is the instruction's, and the instruction exists in the build. -/
def Instr.HasWord (xlen : Xlen) (w : InstrWord) (i : Instr) : Prop := encode i = w ∧ i.wf xlen = true

/-- What an answer of the decoder says of the word: an operation has the word as its own; under the five opcodes a word of another unit
matches a row of R68 that exists, and no word is the CPU's. -/
def Decoded.IsJustified (xlen : Xlen) (w : InstrWord) : Decoded → Prop
  | .op i => i.HasWord xlen w
  | .elsewhere _ => IsFpOpcode (opcodeField w) → ∃ r ∈ elsewhereTable, r.matches w = true ∧ (r.rv64Only = true → xlen = .rv64)
  | .illegal => True
  | .foreign => ¬ IsFpOpcode (opcodeField w)

section Justified
variable {xlen : Xlen} {w : InstrWord}

theorem isJustified_illegal : Decoded.illegal.IsJustified xlen w := trivial

theorem isJustified_ite {c : Prop} [Decidable c] {d e : Decoded} (hd : c → d.IsJustified xlen w) (he : e.IsJustified xlen w) :
    (if c then d else e).IsJustified xlen w := by
  split
  · exact hd ‹c›
  · exact he

theorem isJustified_whenRv64 {d : Decoded} (h : xlen = .rv64 → d.IsJustified xlen w) : (whenRv64 xlen d).IsJustified xlen w :=
  isJustified_ite h isJustified_illegal

/-! ### Outside the five opcodes -/

theorem decodeMemory_isJustified (hop : ¬ IsFpOpcode (opcodeField w)) (u : CpuUnit) : (decodeMemory u w).IsJustified xlen w :=
  isJustified_ite (fun _ h => absurd h hop) hop

theorem decodeSystem_isJustified (hop : ¬ IsFpOpcode (opcodeField w)) : (decodeSystem w).IsJustified xlen w :=
  isJustified_ite (fun _ h => absurd h hop) hop

/-! ### Under a fused opcode -/

theorem isJustified_op_of_encodeR4 {i : Instr} {op : BitVec 7} {fmt : BitVec 2} (hop : opcodeField w = op) (hfmt : fmtField w = fmt)
    (hi : i.HasWord xlen (encodeR4 op fmt (rs3Field w) (rs2Field w) (rs1Field w) (rmField w) (rdField w))) :
    (Decoded.op i).IsJustified xlen w := by
  rwa [← hop, ← hfmt, encodeR4_fields] at hi

theorem decodeFused_isJustified {single double : Reg → Reg → Reg → Reg → RoundingCode → Instr} {op : BitVec 7}
    (hop : opcodeField w = op)
    (hs : ∀ rd rs1 rs2 rs3 rm, (single rd rs1 rs2 rs3 rm).HasWord xlen (encodeR4 op 0b00#2 rs3 rs2 rs1 rm rd))
    (hd : ∀ rd rs1 rs2 rs3 rm, (double rd rs1 rs2 rs3 rm).HasWord xlen (encodeR4 op 0b01#2 rs3 rs2 rs1 rm rd)) :
    (decodeFused single double w).IsJustified xlen w := by
  refine isJustified_ite (fun h => isJustified_op_of_encodeR4 hop h (hs _ _ _ _ _)) ?_
  exact isJustified_ite (fun h => isJustified_op_of_encodeR4 hop h (hd _ _ _ _ _)) isJustified_illegal

/-! ### Under OP-FP -/

variable (hop : opcodeField w = 0b1010011#7) {f7 : BitVec 7} (hf7 : funct7Field w = f7)
include hop hf7

theorem isJustified_op_of_encodeR {i : Instr} {rs2 : Reg} {f3 : RoundingCode} (hrs2 : rs2Field w = rs2) (hf3 : rmField w = f3)
    (hi : i.HasWord xlen (encodeR f7 rs2 (rs1Field w) f3 (rdField w))) : (Decoded.op i).IsJustified xlen w := by
  rwa [← hf7, ← hrs2, ← hf3, encodeR_fields hop] at hi

theorem decodeUnary_isJustified {code : Reg} {f : Reg → Reg → RoundingCode → Instr}
    (hf : ∀ rd rs1 rm, (f rd rs1 rm).HasWord xlen (encodeR f7 code rs1 rm rd)) : (decodeUnary code f w).IsJustified xlen w :=
  isJustified_ite (fun h => isJustified_op_of_encodeR hop hf7 h rfl (hf _ _ _)) isJustified_illegal

theorem decodeMinMax_isJustified {min max : Reg → Reg → Reg → Instr}
    (hmin : ∀ rd rs1 rs2, (min rd rs1 rs2).HasWord xlen (encodeR f7 rs2 rs1 0b000#3 rd))
    (hmax : ∀ rd rs1 rs2, (max rd rs1 rs2).HasWord xlen (encodeR f7 rs2 rs1 0b001#3 rd)) :
    (decodeMinMax min max w).IsJustified xlen w := by
  refine isJustified_ite (fun h => isJustified_op_of_encodeR hop hf7 rfl h (hmin _ _ _)) ?_
  exact isJustified_ite (fun h => isJustified_op_of_encodeR hop hf7 rfl h (hmax _ _ _)) isJustified_illegal

theorem decodeCompare_isJustified {le lt eq : Reg → Reg → Reg → Instr}
    (hle : ∀ rd rs1 rs2, (le rd rs1 rs2).HasWord xlen (encodeR f7 rs2 rs1 0b000#3 rd))
    (hlt : ∀ rd rs1 rs2, (lt rd rs1 rs2).HasWord xlen (encodeR f7 rs2 rs1 0b001#3 rd))
    (heq : ∀ rd rs1 rs2, (eq rd rs1 rs2).HasWord xlen (encodeR f7 rs2 rs1 0b010#3 rd)) :
    (decodeCompare le lt eq w).IsJustified xlen w := by
  refine isJustified_ite (fun h => isJustified_op_of_encodeR hop hf7 rfl h (hle _ _ _)) ?_
  refine isJustified_ite (fun h => isJustified_op_of_encodeR hop hf7 rfl h (hlt _ _ _)) ?_
  exact isJustified_ite (fun h => isJustified_op_of_encodeR hop hf7 rfl h (heq _ _ _)) isJustified_illegal

theorem decodeConvert_isJustified {cw cwu cl clu : Reg → Reg → RoundingCode → Instr}
    (hw : ∀ rd rs1 rm, (cw rd rs1 rm).HasWord xlen (encodeR f7 0#5 rs1 rm rd))
    (hwu : ∀ rd rs1 rm, (cwu rd rs1 rm).HasWord xlen (encodeR f7 1#5 rs1 rm rd))
    (hl : ∀ rd rs1 rm, (cl rd rs1 rm).HasWord .rv64 (encodeR f7 2#5 rs1 rm rd))
    (hlu : ∀ rd rs1 rm, (clu rd rs1 rm).HasWord .rv64 (encodeR f7 3#5 rs1 rm rd)) :
    (decodeConvert xlen cw cwu cl clu w).IsJustified xlen w := by
  refine isJustified_ite (fun h => isJustified_op_of_encodeR hop hf7 h rfl (hw _ _ _)) ?_
  refine isJustified_ite (fun h => isJustified_op_of_encodeR hop hf7 h rfl (hwu _ _ _)) ?_
  refine isJustified_ite (fun h => isJustified_whenRv64 fun hx => isJustified_op_of_encodeR hop hf7 h rfl (hx ▸ hl _ _ _)) ?_
  refine isJustified_ite (fun h => isJustified_whenRv64 fun hx => isJustified_op_of_encodeR hop hf7 h rfl (hx ▸ hlu _ _ _)) ?_
  exact isJustified_illegal

theorem isJustified_signInject {f3 : RoundingCode} (hf3 : rmField w = f3) (u : CpuUnit)
    (hrow : ∃ r ∈ elsewhereTable, r.mask = 0xFE00707F#32 ∧ r.pattern = encodeR f7 0#5 0#5 f3 0#5 ∧ r.rv64Only = false) :
    (Decoded.elsewhere u).IsJustified xlen w := by
  obtain ⟨r, hr, hm, hp, hx⟩ := hrow
  refine fun _ => ⟨r, hr, ?_, by simp [hx]⟩
  rw [ElsewhereRow.matches, hm, hp, ← encodeR_fields hop, encodeR_and_function, hf7, hf3, beq_self_eq_true]

theorem isJustified_move {only64 : Bool} (hrs2 : rs2Field w = 0#5) (hf3 : rmField w = 0b000#3) (u : CpuUnit)
    (hrow : ∃ r ∈ elsewhereTable, r.mask = 0xFFF0707F#32 ∧ r.pattern = encodeR f7 0#5 0#5 0b000#3 0#5 ∧ r.rv64Only = only64)
    (hx : only64 = true → xlen = .rv64) : (Decoded.elsewhere u).IsJustified xlen w := by
  obtain ⟨r, hr, hm, hp, rfl⟩ := hrow
  refine fun _ => ⟨r, hr, ?_, hx⟩
  rw [ElsewhereRow.matches, hm, hp, ← encodeR_fields hop, encodeR_and_classify, hf7, hrs2, hf3, beq_self_eq_true]

theorem decodeSignInject_isJustified
    (hrow : ∀ f3, f3 = 0b000#3 ∨ f3 = 0b001#3 ∨ f3 = 0b010#3 →
      ∃ r ∈ elsewhereTable, r.mask = 0xFE00707F#32 ∧ r.pattern = encodeR f7 0#5 0#5 f3 0#5 ∧ r.rv64Only = false) :
    (decodeSignInject w).IsJustified xlen w :=
  isJustified_ite (fun h => isJustified_signInject hop hf7 rfl .registerFile (hrow _ h)) isJustified_illegal

theorem decodeMoveToFp_isJustified {only64 : Bool}
    (hrow : ∃ r ∈ elsewhereTable, r.mask = 0xFFF0707F#32 ∧ r.pattern = encodeR f7 0#5 0#5 0b000#3 0#5 ∧ r.rv64Only = only64)
    (hx : only64 = true → xlen = .rv64) : (decodeMoveToFp w).IsJustified xlen w :=
  isJustified_ite (fun h => isJustified_move hop hf7 h.1 h.2 .registerFile hrow hx) isJustified_illegal

theorem decodeClassify_isJustified {fclass : Reg → Reg → Instr} {move : Decoded}
    (hf : ∀ rd rs1, (fclass rd rs1).HasWord xlen (encodeR f7 0#5 rs1 0b001#3 rd))
    (hmove : rs2Field w = 0#5 → rmField w = 0b000#3 → move.IsJustified xlen w) : (decodeClassify fclass move w).IsJustified xlen w := by
  refine isJustified_ite (fun h2 => ?_) isJustified_illegal
  refine isJustified_ite (fun h3 => isJustified_op_of_encodeR hop hf7 h2 h3 (hf _ _)) ?_
  exact isJustified_ite (hmove h2) isJustified_illegal

omit hf7

/-- The branches of `decodeOpFp` in their order, two of a kind being the single and the double one. -/
theorem decodeOpFp_isJustified : (decodeOpFp xlen w).IsJustified xlen w := by
  unfold decodeOpFp
  -- FADD, FSUB, FMUL, FDIV
  iterate 8 refine isJustified_ite (fun h => isJustified_op_of_encodeR hop h rfl rfl ⟨rfl, rfl⟩) ?_
  -- FSQRT
  iterate 2 refine isJustified_ite (fun h => decodeUnary_isJustified hop h fun _ _ _ => ⟨rfl, rfl⟩) ?_
  iterate 2
    refine isJustified_ite (fun h => decodeMinMax_isJustified hop h (fun _ _ _ => ⟨rfl, rfl⟩) fun _ _ _ => ⟨rfl, rfl⟩) ?_
  iterate 2
    refine isJustified_ite (fun h => decodeCompare_isJustified hop h (fun _ _ _ => ⟨rfl, rfl⟩) (fun _ _ _ => ⟨rfl, rfl⟩)
      fun _ _ _ => ⟨rfl, rfl⟩) ?_
  -- float to integer, integer to float
  iterate 4
    refine isJustified_ite (fun h => decodeConvert_isJustified hop h (fun _ _ _ => ⟨rfl, rfl⟩) (fun _ _ _ => ⟨rfl, rfl⟩)
      (fun _ _ _ => ⟨rfl, rfl⟩) fun _ _ _ => ⟨rfl, rfl⟩) ?_
  -- FCVT.S.D, FCVT.D.S
  iterate 2 refine isJustified_ite (fun h => decodeUnary_isJustified hop h fun _ _ _ => ⟨rfl, rfl⟩) ?_
  -- FCLASS with FMV.X.W, FCLASS with FMV.X.D
  refine isJustified_ite (fun h => decodeClassify_isJustified hop h (fun _ _ => ⟨rfl, rfl⟩) fun h2 h3 =>
    isJustified_move (only64 := false) hop h h2 h3 _ (by decide) nofun) ?_
  refine isJustified_ite (fun h => decodeClassify_isJustified hop h (fun _ _ => ⟨rfl, rfl⟩) fun h2 h3 => isJustified_whenRv64 fun hx =>
    isJustified_move (only64 := true) hop h h2 h3 _ (by decide) fun _ => hx) ?_
  iterate 2 refine isJustified_ite (fun h => decodeSignInject_isJustified hop h (by decide)) ?_
  -- FMV.W.X, FMV.D.X
  refine isJustified_ite (fun h => decodeMoveToFp_isJustified (only64 := false) hop h (by decide) nofun) ?_
  refine isJustified_ite (fun h => isJustified_whenRv64 fun hx =>
    decodeMoveToFp_isJustified (only64 := true) hop h (by decide) fun _ => hx) ?_
  exact isJustified_illegal

end Justified

/-- Every answer of the decoder, for every word and both widths. -/
theorem decode_isJustified (xlen : Xlen) (w : InstrWord) : (decode xlen w).IsJustified xlen w := by
  simp only [decode]
  split_ifs with fmadd fmsub fnmsub fnmadd opFp load store system
  · exact decodeFused_isJustified fmadd (fun _ _ _ _ _ => ⟨rfl, rfl⟩) fun _ _ _ _ _ => ⟨rfl, rfl⟩
  · exact decodeFused_isJustified fmsub (fun _ _ _ _ _ => ⟨rfl, rfl⟩) fun _ _ _ _ _ => ⟨rfl, rfl⟩
  · exact decodeFused_isJustified fnmsub (fun _ _ _ _ _ => ⟨rfl, rfl⟩) fun _ _ _ _ _ => ⟨rfl, rfl⟩
  · exact decodeFused_isJustified fnmadd (fun _ _ _ _ _ => ⟨rfl, rfl⟩) fun _ _ _ _ _ => ⟨rfl, rfl⟩
  · exact decodeOpFp_isJustified opFp
  · exact decodeMemory_isJustified (by simp [IsFpOpcode, load]) .load
  · exact decodeMemory_isJustified (by simp [IsFpOpcode, store]) .store
  · exact decodeSystem_isJustified (by simp [IsFpOpcode, system])
  · simp [Decoded.IsJustified, IsFpOpcode, fmadd, fmsub, fnmsub, fnmadd, opFp]

/-- Settles O3: it is what the decoder's answer `op` says of the word. -/
theorem encodeOfDecodeIsTheWord : Obligations.EncodeOfDecodeIsTheWord := by
  intro xlen w i h
  have hj := decode_isJustified xlen w
  rwa [h] at hj

/-! ## The rows of the table and the encoder (30_encoding.md R67) -/

/-- The word is the instruction's, and the instruction is the row's. -/
def OpcodeRow.HasInstr (r : OpcodeRow) (w : InstrWord) (i : Instr) : Prop :=
  encode i = w ∧ i.mnemonic = r.mnemonic ∧ i.needsRv64 = r.rv64Only

/-- Every word that matches the row is the encoding of an instruction of the row. -/
def RowCovers (r : OpcodeRow) : Prop := ∀ w, r.matches w = true → ∃ i, r.HasInstr w i

section Rows
variable {n : String} {p : InstrWord} {x : Bool}

/-- The mask of the fused rows keeps the opcode and `fmt`. -/
theorem rowCovers_fused (f : Reg → Reg → Reg → Reg → RoundingCode → Instr)
    (hf : ∀ rd rs1 rs2 rs3 rm, OpcodeRow.HasInstr ⟨n, p, 0x0600007F#32, x⟩
      (encodeR4 (opcodeField p) (fmtField p) rs3 rs2 rs1 rm rd) (f rd rs1 rs2 rs3 rm)) : RowCovers ⟨n, p, 0x0600007F#32, x⟩ := by
  intro w (h : (w &&& 0x0600007F#32 == p) = true)
  have hop : opcodeField w = opcodeField p := extractLsb'_eq_of_matches rfl h
  have hfmt : fmtField w = fmtField p := extractLsb'_eq_of_matches rfl h
  have hi := hf (rdField w) (rs1Field w) (rs2Field w) (rs3Field w) (rmField w)
  rw [← hop, ← hfmt, encodeR4_fields] at hi
  exact ⟨_, hi⟩

variable (hp : opcodeField p = 0b1010011#7)
include hp

/-- The rows of the R format: the mask keeps funct7 and the opcode, and what else it keeps may be used to find the instruction. -/
theorem rowCovers_R {m : InstrWord} (hm : m.extractLsb' 0 7 = BitVec.allOnes 7) (hm7 : m.extractLsb' 25 7 = BitVec.allOnes 7)
    (hi : ∀ w, (w &&& m == p) = true → ∃ i, OpcodeRow.HasInstr ⟨n, p, m, x⟩
      (encodeR (funct7Field p) (rs2Field w) (rs1Field w) (rmField w) (rdField w)) i) : RowCovers ⟨n, p, m, x⟩ := by
  intro w (h : (w &&& m == p) = true)
  have hop : opcodeField w = opcodeField p := extractLsb'_eq_of_matches hm h
  have hf7 : funct7Field w = funct7Field p := extractLsb'_eq_of_matches hm7 h
  have hi := hi w h
  rwa [← hf7, encodeR_fields (hop.trans hp)] at hi

theorem rowCovers_twoOperand (f : Reg → Reg → Reg → RoundingCode → Instr)
    (hf : ∀ rd rs1 rs2 rm, OpcodeRow.HasInstr ⟨n, p, 0xFE00007F#32, x⟩ (encodeR (funct7Field p) rs2 rs1 rm rd) (f rd rs1 rs2 rm)) :
    RowCovers ⟨n, p, 0xFE00007F#32, x⟩ :=
  rowCovers_R hp rfl rfl fun _ _ => ⟨_, hf _ _ _ _⟩

/-- The mask keeps rs2 too. -/
theorem rowCovers_oneOperand (f : Reg → Reg → RoundingCode → Instr)
    (hf : ∀ rd rs1 rm, OpcodeRow.HasInstr ⟨n, p, 0xFFF0007F#32, x⟩ (encodeR (funct7Field p) (rs2Field p) rs1 rm rd) (f rd rs1 rm)) :
    RowCovers ⟨n, p, 0xFFF0007F#32, x⟩ := by
  refine rowCovers_R hp rfl rfl fun w h => ?_
  have hrs2 : rs2Field w = rs2Field p := extractLsb'_eq_of_matches rfl h
  exact ⟨_, hrs2 ▸ hf _ _ _⟩

/-- The mask keeps funct3 too. -/
theorem rowCovers_function (f : Reg → Reg → Reg → Instr)
    (hf : ∀ rd rs1 rs2, OpcodeRow.HasInstr ⟨n, p, 0xFE00707F#32, x⟩ (encodeR (funct7Field p) rs2 rs1 (rmField p) rd) (f rd rs1 rs2)) :
    RowCovers ⟨n, p, 0xFE00707F#32, x⟩ := by
  refine rowCovers_R hp rfl rfl fun w h => ?_
  have hf3 : rmField w = rmField p := extractLsb'_eq_of_matches rfl h
  exact ⟨_, hf3 ▸ hf _ _ _⟩

/-- The mask keeps rs2 and funct3 too. -/
theorem rowCovers_classify (f : Reg → Reg → Instr)
    (hf : ∀ rd rs1, OpcodeRow.HasInstr ⟨n, p, 0xFFF0707F#32, x⟩
      (encodeR (funct7Field p) (rs2Field p) rs1 (rmField p) rd) (f rd rs1)) : RowCovers ⟨n, p, 0xFFF0707F#32, x⟩ := by
  refine rowCovers_R hp rfl rfl fun w h => ?_
  have hrs2 : rs2Field w = rs2Field p := extractLsb'_eq_of_matches rfl h
  have hf3 : rmField w = rmField p := extractLsb'_eq_of_matches rfl h
  exact ⟨_, hrs2 ▸ hf3 ▸ hf _ _⟩

end Rows

theorem rowCovers_opcodeTableFused : ∀ r ∈ opcodeTableFused, RowCovers r := by
  simp only [opcodeTableFused, List.forall_mem_cons, List.not_mem_nil, IsEmpty.forall_iff, implies_true, and_true]
  exact ⟨rowCovers_fused .fmaddS fun _ _ _ _ _ => ⟨rfl, rfl, rfl⟩,
    rowCovers_fused .fmsubS fun _ _ _ _ _ => ⟨rfl, rfl, rfl⟩,
    rowCovers_fused .fnmsubS fun _ _ _ _ _ => ⟨rfl, rfl, rfl⟩,
    rowCovers_fused .fnmaddS fun _ _ _ _ _ => ⟨rfl, rfl, rfl⟩,
    rowCovers_fused .fmaddD fun _ _ _ _ _ => ⟨rfl, rfl, rfl⟩,
    rowCovers_fused .fmsubD fun _ _ _ _ _ => ⟨rfl, rfl, rfl⟩,
    rowCovers_fused .fnmsubD fun _ _ _ _ _ => ⟨rfl, rfl, rfl⟩,
    rowCovers_fused .fnmaddD fun _ _ _ _ _ => ⟨rfl, rfl, rfl⟩⟩

theorem rowCovers_opcodeTableArithMinMaxCompare : ∀ r ∈ opcodeTableArithMinMaxCompare, RowCovers r := by
  simp only [opcodeTableArithMinMaxCompare, List.forall_mem_cons, List.not_mem_nil, IsEmpty.forall_iff, implies_true, and_true]
  exact ⟨rowCovers_twoOperand rfl .faddS fun _ _ _ _ => ⟨rfl, rfl, rfl⟩,
    rowCovers_twoOperand rfl .fsubS fun _ _ _ _ => ⟨rfl, rfl, rfl⟩,
    rowCovers_twoOperand rfl .fmulS fun _ _ _ _ => ⟨rfl, rfl, rfl⟩,
    rowCovers_twoOperand rfl .fdivS fun _ _ _ _ => ⟨rfl, rfl, rfl⟩,
    rowCovers_oneOperand rfl .fsqrtS fun _ _ _ => ⟨rfl, rfl, rfl⟩,
    rowCovers_function rfl .fminS fun _ _ _ => ⟨rfl, rfl, rfl⟩,
    rowCovers_function rfl .fmaxS fun _ _ _ => ⟨rfl, rfl, rfl⟩,
    rowCovers_function rfl .fleS fun _ _ _ => ⟨rfl, rfl, rfl⟩,
    rowCovers_function rfl .fltS fun _ _ _ => ⟨rfl, rfl, rfl⟩,
    rowCovers_function rfl .feqS fun _ _ _ => ⟨rfl, rfl, rfl⟩,
    rowCovers_twoOperand rfl .faddD fun _ _ _ _ => ⟨rfl, rfl, rfl⟩,
    rowCovers_twoOperand rfl .fsubD fun _ _ _ _ => ⟨rfl, rfl, rfl⟩,
    rowCovers_twoOperand rfl .fmulD fun _ _ _ _ => ⟨rfl, rfl, rfl⟩,
    rowCovers_twoOperand rfl .fdivD fun _ _ _ _ => ⟨rfl, rfl, rfl⟩,
    rowCovers_oneOperand rfl .fsqrtD fun _ _ _ => ⟨rfl, rfl, rfl⟩,
    rowCovers_function rfl .fminD fun _ _ _ => ⟨rfl, rfl, rfl⟩,
    rowCovers_function rfl .fmaxD fun _ _ _ => ⟨rfl, rfl, rfl⟩,
    rowCovers_function rfl .fleD fun _ _ _ => ⟨rfl, rfl, rfl⟩,
    rowCovers_function rfl .fltD fun _ _ _ => ⟨rfl, rfl, rfl⟩,
    rowCovers_function rfl .feqD fun _ _ _ => ⟨rfl, rfl, rfl⟩⟩

theorem rowCovers_opcodeTableConvert : ∀ r ∈ opcodeTableConvert, RowCovers r := by
  simp only [opcodeTableConvert, List.forall_mem_cons, List.not_mem_nil, IsEmpty.forall_iff, implies_true, and_true]
  exact ⟨rowCovers_oneOperand rfl .fcvtWS fun _ _ _ => ⟨rfl, rfl, rfl⟩,
    rowCovers_oneOperand rfl .fcvtWuS fun _ _ _ => ⟨rfl, rfl, rfl⟩,
    rowCovers_oneOperand rfl .fcvtLS fun _ _ _ => ⟨rfl, rfl, rfl⟩,
    rowCovers_oneOperand rfl .fcvtLuS fun _ _ _ => ⟨rfl, rfl, rfl⟩,
    rowCovers_oneOperand rfl .fcvtSW fun _ _ _ => ⟨rfl, rfl, rfl⟩,
    rowCovers_oneOperand rfl .fcvtSWu fun _ _ _ => ⟨rfl, rfl, rfl⟩,
    rowCovers_oneOperand rfl .fcvtSL fun _ _ _ => ⟨rfl, rfl, rfl⟩,
    rowCovers_oneOperand rfl .fcvtSLu fun _ _ _ => ⟨rfl, rfl, rfl⟩,
    rowCovers_oneOperand rfl .fcvtWD fun _ _ _ => ⟨rfl, rfl, rfl⟩,
    rowCovers_oneOperand rfl .fcvtWuD fun _ _ _ => ⟨rfl, rfl, rfl⟩,
    rowCovers_oneOperand rfl .fcvtLD fun _ _ _ => ⟨rfl, rfl, rfl⟩,
    rowCovers_oneOperand rfl .fcvtLuD fun _ _ _ => ⟨rfl, rfl, rfl⟩,
    rowCovers_oneOperand rfl .fcvtDW fun _ _ _ => ⟨rfl, rfl, rfl⟩,
    rowCovers_oneOperand rfl .fcvtDWu fun _ _ _ => ⟨rfl, rfl, rfl⟩,
    rowCovers_oneOperand rfl .fcvtDL fun _ _ _ => ⟨rfl, rfl, rfl⟩,
    rowCovers_oneOperand rfl .fcvtDLu fun _ _ _ => ⟨rfl, rfl, rfl⟩,
    rowCovers_oneOperand rfl .fcvtSD fun _ _ _ => ⟨rfl, rfl, rfl⟩,
    rowCovers_oneOperand rfl .fcvtDS fun _ _ _ => ⟨rfl, rfl, rfl⟩⟩

theorem rowCovers_opcodeTableClassify : ∀ r ∈ opcodeTableClassify, RowCovers r := by
  simp only [opcodeTableClassify, List.forall_mem_cons, List.not_mem_nil, IsEmpty.forall_iff, implies_true, and_true]
  exact ⟨rowCovers_classify rfl .fclassS fun _ _ => ⟨rfl, rfl, rfl⟩,
    rowCovers_classify rfl .fclassD fun _ _ => ⟨rfl, rfl, rfl⟩⟩

theorem rowCovers_of_mem {r : OpcodeRow} (hr : r ∈ opcodeTable) : RowCovers r := by
  simp only [opcodeTable, List.mem_append] at hr
  obtain ((hr | hr) | hr) | hr := hr
  · exact rowCovers_opcodeTableFused r hr
  · exact rowCovers_opcodeTableArithMinMaxCompare r hr
  · exact rowCovers_opcodeTableConvert r hr
  · exact rowCovers_opcodeTableClassify r hr

/-- Every instruction stands in its own row of the table. -/
theorem tableRow : (i : Instr) → Laws.TableRow.Statement i
  | .fmaddS _ _ _ _ _ => Laws.TableRow.fmaddS _ _ _ _ _
  | .fmsubS _ _ _ _ _ => Laws.TableRow.fmsubS _ _ _ _ _
  | .fnmsubS _ _ _ _ _ => Laws.TableRow.fnmsubS _ _ _ _ _
  | .fnmaddS _ _ _ _ _ => Laws.TableRow.fnmaddS _ _ _ _ _
  | .fmaddD _ _ _ _ _ => Laws.TableRow.fmaddD _ _ _ _ _
  | .fmsubD _ _ _ _ _ => Laws.TableRow.fmsubD _ _ _ _ _
  | .fnmsubD _ _ _ _ _ => Laws.TableRow.fnmsubD _ _ _ _ _
  | .fnmaddD _ _ _ _ _ => Laws.TableRow.fnmaddD _ _ _ _ _
  | .faddS _ _ _ _ => Laws.TableRow.faddS _ _ _ _
  | .fsubS _ _ _ _ => Laws.TableRow.fsubS _ _ _ _
  | .fmulS _ _ _ _ => Laws.TableRow.fmulS _ _ _ _
  | .fdivS _ _ _ _ => Laws.TableRow.fdivS _ _ _ _
  | .fsqrtS _ _ _ => Laws.TableRow.fsqrtS _ _ _
  | .fminS _ _ _ => Laws.TableRow.fminS _ _ _
  | .fmaxS _ _ _ => Laws.TableRow.fmaxS _ _ _
  | .fleS _ _ _ => Laws.TableRow.fleS _ _ _
  | .fltS _ _ _ => Laws.TableRow.fltS _ _ _
  | .feqS _ _ _ => Laws.TableRow.feqS _ _ _
  | .fcvtWS _ _ _ => Laws.TableRow.fcvtWS _ _ _
  | .fcvtWuS _ _ _ => Laws.TableRow.fcvtWuS _ _ _
  | .fcvtLS _ _ _ => Laws.TableRow.fcvtLS _ _ _
  | .fcvtLuS _ _ _ => Laws.TableRow.fcvtLuS _ _ _
  | .fcvtSW _ _ _ => Laws.TableRow.fcvtSW _ _ _
  | .fcvtSWu _ _ _ => Laws.TableRow.fcvtSWu _ _ _
  | .fcvtSL _ _ _ => Laws.TableRow.fcvtSL _ _ _
  | .fcvtSLu _ _ _ => Laws.TableRow.fcvtSLu _ _ _
  | .fclassS _ _ => Laws.TableRow.fclassS _ _
  | .faddD _ _ _ _ => Laws.TableRow.faddD _ _ _ _
  | .fsubD _ _ _ _ => Laws.TableRow.fsubD _ _ _ _
  | .fmulD _ _ _ _ => Laws.TableRow.fmulD _ _ _ _
  | .fdivD _ _ _ _ => Laws.TableRow.fdivD _ _ _ _
  | .fsqrtD _ _ _ => Laws.TableRow.fsqrtD _ _ _
  | .fminD _ _ _ => Laws.TableRow.fminD _ _ _
  | .fmaxD _ _ _ => Laws.TableRow.fmaxD _ _ _
  | .fleD _ _ _ => Laws.TableRow.fleD _ _ _
  | .fltD _ _ _ => Laws.TableRow.fltD _ _ _
  | .feqD _ _ _ => Laws.TableRow.feqD _ _ _
  | .fcvtWD _ _ _ => Laws.TableRow.fcvtWD _ _ _
  | .fcvtWuD _ _ _ => Laws.TableRow.fcvtWuD _ _ _
  | .fcvtLD _ _ _ => Laws.TableRow.fcvtLD _ _ _
  | .fcvtLuD _ _ _ => Laws.TableRow.fcvtLuD _ _ _
  | .fcvtDW _ _ _ => Laws.TableRow.fcvtDW _ _ _
  | .fcvtDWu _ _ _ => Laws.TableRow.fcvtDWu _ _ _
  | .fcvtDL _ _ _ => Laws.TableRow.fcvtDL _ _ _
  | .fcvtDLu _ _ _ => Laws.TableRow.fcvtDLu _ _ _
  | .fclassD _ _ => Laws.TableRow.fclassD _ _
  | .fcvtSD _ _ _ => Laws.TableRow.fcvtSD _ _ _
  | .fcvtDS _ _ _ => Laws.TableRow.fcvtDS _ _ _

theorem eq_of_mnemonic_eq {r q : OpcodeRow} (hr : r ∈ opcodeTable) (hq : q ∈ opcodeTable) (h : r.mnemonic = q.mnemonic) : r = q :=
  have hnodup : (opcodeTable.map OpcodeRow.mnemonic).Nodup := by decide
  List.inj_on_of_nodup_map hnodup hr hq h

/-- A word that matches a row that exists decodes to an operation of the row. -/
theorem exists_decode_of_matches {xlen : Xlen} {r : OpcodeRow} (hr : r ∈ opcodeTable) (hx : r.rv64Only = true → xlen = .rv64)
    {w : InstrWord} (h : r.matches w = true) : ∃ i, decode xlen w = .op i ∧ i.mnemonic = r.mnemonic := by
  obtain ⟨i, rfl, hm, hn⟩ := rowCovers_of_mem hr w h
  exact ⟨i, decodeOfEncodeIsTheInstruction xlen i (Instr.wf_iff.mpr (hn ▸ hx)), hm⟩

/-- A word that decodes to an operation matches the operation's row, which exists. -/
theorem exists_row_of_decode {xlen : Xlen} {w : InstrWord} {i : Instr} (h : decode xlen w = .op i) :
    ∃ r ∈ opcodeTable, r.mnemonic = i.mnemonic ∧ r.matches w = true ∧ (r.rv64Only = true → xlen = .rv64) := by
  obtain ⟨rfl, hwf⟩ := encodeOfDecodeIsTheWord xlen w i h
  obtain ⟨r, hr, hm, hw, hx⟩ := tableRow i
  exact ⟨r, hr, hm, hw, hx ▸ Instr.wf_iff.mp hwf⟩

/-- Settles O1: the mnemonics of the rows differ, and a word of two rows decodes to one operation, so no word matches two rows. -/
theorem opcodeTableDecodesRowByRow : Obligations.OpcodeTableDecodesRowByRow := by
  refine ⟨rfl, fun r hr q hq w hrw hqw => ?_, fun xlen r hr hx w => ⟨exists_decode_of_matches hr hx, fun ⟨i, hi, hm⟩ => ?_⟩⟩
  · obtain ⟨i, hi, hir⟩ := exists_decode_of_matches (xlen := .rv64) hr (fun _ => rfl) hrw
    obtain ⟨j, hj, hjq⟩ := exists_decode_of_matches (xlen := .rv64) hq (fun _ => rfl) hqw
    obtain rfl : i = j := Decoded.op.inj (hi.symm.trans hj)
    exact eq_of_mnemonic_eq hr hq (hir.symm.trans hjq)
  · obtain ⟨q, hq, hqi, hqw, -⟩ := exists_row_of_decode hi
    rwa [← eq_of_mnemonic_eq hq hr (hqi.trans hm)]

/-! ## The instructions outside the block (30_encoding.md R68) -/

/-- Where the row exists, every word that matches it is sent to its unit. -/
def RowLeaves (r : ElsewhereRow) : Prop :=
  ∀ xlen, (r.rv64Only = true → xlen = .rv64) → ∀ w, r.matches w = true → decode xlen w = .elsewhere r.unit

section Leaves
variable {n : String} {p : InstrWord} {x : Bool}

theorem rowLeaves_memory {u : CpuUnit} {op : BitVec 7} (hd : ∀ xlen {w}, opcodeField w = op → decode xlen w = decodeMemory u w)
    (hp : opcodeField p = op) (hf3 : rmField p = 0b010#3 ∨ rmField p = 0b011#3) : RowLeaves ⟨n, p, 0x0000707F#32, x, u⟩ := by
  intro xlen _ w (h : (w &&& 0x0000707F#32 == p) = true)
  have hop : opcodeField w = opcodeField p := extractLsb'_eq_of_matches rfl h
  have hrm : rmField w = rmField p := extractLsb'_eq_of_matches rfl h
  rw [hd xlen (hop.trans hp), decodeMemory, hrm, if_pos hf3]

variable (hp : opcodeField p = 0b1010011#7)
include hp

theorem rowLeaves_signInject (hf7 : funct7Field p = 0b0010000#7 ∨ funct7Field p = 0b0010001#7)
    (hf3 : rmField p = 0b000#3 ∨ rmField p = 0b001#3 ∨ rmField p = 0b010#3) : RowLeaves ⟨n, p, 0xFE00707F#32, x, .registerFile⟩ := by
  intro xlen _ w (h : (w &&& 0xFE00707F#32 == p) = true)
  have hop : opcodeField w = opcodeField p := extractLsb'_eq_of_matches rfl h
  have hw7 : funct7Field w = funct7Field p := extractLsb'_eq_of_matches rfl h
  have hrm : rmField w = rmField p := extractLsb'_eq_of_matches rfl h
  have hbranch : decodeOpFp xlen w = decodeSignInject w := by
    obtain hf7 | hf7 := hf7 <;> simp [decodeOpFp, hw7, hf7]
  rw [decode_of_opFp xlen (hop.trans hp), hbranch, decodeSignInject, hrm, if_pos hf3]

theorem rowLeaves_move (f7 : BitVec 7) (hf7 : funct7Field p = f7) (hrs2 : rs2Field p = 0#5) (hf3 : rmField p = 0b000#3)
    (hd : ∀ {xlen w}, (x = true → xlen = .rv64) → funct7Field w = f7 → rs2Field w = 0#5 → rmField w = 0b000#3 →
      decodeOpFp xlen w = .elsewhere .registerFile) : RowLeaves ⟨n, p, 0xFFF0707F#32, x, .registerFile⟩ := by
  intro xlen hx w (h : (w &&& 0xFFF0707F#32 == p) = true)
  have hop : opcodeField w = opcodeField p := extractLsb'_eq_of_matches rfl h
  have hw7 : funct7Field w = funct7Field p := extractLsb'_eq_of_matches rfl h
  have hw2 : rs2Field w = rs2Field p := extractLsb'_eq_of_matches rfl h
  have hrm : rmField w = rmField p := extractLsb'_eq_of_matches rfl h
  rw [decode_of_opFp xlen (hop.trans hp)]
  exact hd hx (hw7.trans hf7) (hw2.trans hrs2) (hrm.trans hf3)

end Leaves

theorem rowLeaves_elsewhereTable : ∀ r ∈ elsewhereTable, RowLeaves r := by
  simp only [elsewhereTable, List.forall_mem_cons, List.not_mem_nil, IsEmpty.forall_iff, implies_true, and_true]
  exact ⟨rowLeaves_memory decode_of_load rfl (.inl rfl),
    rowLeaves_memory decode_of_load rfl (.inr rfl),
    rowLeaves_memory decode_of_store rfl (.inl rfl),
    rowLeaves_memory decode_of_store rfl (.inr rfl),
    rowLeaves_signInject rfl (.inl rfl) (.inl rfl),
    rowLeaves_signInject rfl (.inl rfl) (.inr (.inl rfl)),
    rowLeaves_signInject rfl (.inl rfl) (.inr (.inr rfl)),
    rowLeaves_signInject rfl (.inr rfl) (.inl rfl),
    rowLeaves_signInject rfl (.inr rfl) (.inr (.inl rfl)),
    rowLeaves_signInject rfl (.inr rfl) (.inr (.inr rfl)),
    rowLeaves_move rfl 0b1110000#7 rfl rfl rfl fun _ h7 h2 h3 => by simp [decodeOpFp, h7, decodeClassify, h2, h3],
    rowLeaves_move rfl 0b1111000#7 rfl rfl rfl fun _ h7 h2 h3 => by simp [decodeOpFp, h7, decodeMoveToFp, h2, h3],
    rowLeaves_move rfl 0b1110001#7 rfl rfl rfl fun hx h7 h2 h3 => by
      simp [decodeOpFp, h7, decodeClassify, h2, h3, hx rfl, whenRv64_eq],
    rowLeaves_move rfl 0b1111001#7 rfl rfl rfl fun hx h7 h2 h3 => by
      simp [decodeOpFp, h7, decodeMoveToFp, h2, h3, hx rfl, whenRv64_eq]⟩

/-- A SYSTEM word in the RISC-V CSR format (log entry 10). -/
def csrWord (csr : BitVec 12) (rs1 : Reg) (f3 : RoundingCode) (rd : Reg) : InstrWord :=
  csr ++ rs1 ++ f3 ++ rd ++ 0b1110011#7

section Csr
variable (csr : BitVec 12) (rs1 : Reg) (f3 : RoundingCode) (rd : Reg)

@[simp] theorem opcodeField_csrWord : opcodeField (csrWord csr rs1 f3 rd) = 0b1110011#7 := by
  apply BitVec.eq_of_toNat_eq
  simp only [opcodeField, csrWord, BitVec.extractLsb'_toNat, Machine.toNat_append_eq, Nat.shiftRight_eq_div_pow, BitVec.toNat_ofNat]
  omega

@[simp] theorem rmField_csrWord : rmField (csrWord csr rs1 f3 rd) = f3 := by
  apply BitVec.eq_of_toNat_eq
  simp only [rmField, csrWord, BitVec.extractLsb'_toNat, Machine.toNat_append_eq, Nat.shiftRight_eq_div_pow, BitVec.toNat_ofNat]
  omega

@[simp] theorem csrField_csrWord : csrField (csrWord csr rs1 f3 rd) = csr := by
  apply BitVec.eq_of_toNat_eq
  simp only [csrField, csrWord, BitVec.extractLsb'_toNat, Machine.toNat_append_eq, Nat.shiftRight_eq_div_pow, BitVec.toNat_ofNat]
  omega

end Csr

theorem decode_csrWord (xlen : Xlen) {csr : BitVec 12} (rs1 rd : Reg) {f3 : RoundingCode} (hcsr : csr = 1#12 ∨ csr = 2#12 ∨ csr = 3#12)
    (h0 : f3 ≠ 0#3) (h4 : f3 ≠ 4#3) : decode xlen (csrWord csr rs1 f3 rd) = .elsewhere .csr := by
  simp [decode, decodeSystem, hcsr, h0, h4]

/-- Settles O6: the table row by row, and the fields of a CSR word. -/
theorem outsideInstructionsGoToTheirUnits : Obligations.OutsideInstructionsGoToTheirUnits :=
  ⟨fun xlen r hr => rowLeaves_elsewhereTable r hr xlen, fun xlen _ rs1 rd _ hcsr h0 h4 => decode_csrWord xlen rs1 rd hcsr h0 h4⟩

/-! ## The illegal words (30_encoding.md R69) -/

theorem row_absent_iff {only64 : Bool} {xlen : Xlen} : (only64 = true ∧ xlen = .rv32) ↔ ¬ (only64 = true → xlen = .rv64) := by
  cases xlen <;> simp

/-- Settles O5: a word of a row that exists is decoded by the row, and any answer but `illegal` names such a row. -/
theorem unlistedFpWordsAreIllegal : Obligations.UnlistedFpWordsAreIllegal := by
  intro xlen w hop
  constructor
  · refine fun hill => ⟨fun r hr hm => row_absent_iff.mpr fun hx => ?_, fun r hr hm => row_absent_iff.mpr fun hx => ?_⟩
    · obtain ⟨i, hi, -⟩ := exists_decode_of_matches hr hx hm
      exact Decoded.noConfusion (hill.symm.trans hi)
    · exact Decoded.noConfusion (hill.symm.trans (rowLeaves_elsewhereTable r hr xlen hx w hm))
  · intro ⟨hblock, houtside⟩
    have hj := decode_isJustified xlen w
    cases hd : decode xlen w with
    | op i =>
      obtain ⟨r, hr, -, hm, hx⟩ := exists_row_of_decode hd
      exact absurd hx (row_absent_iff.mp (hblock r hr hm))
    | elsewhere u =>
      rw [hd] at hj
      obtain ⟨r, hr, hm, hx⟩ := hj hop
      exact absurd hx (row_absent_iff.mp (houtside r hr hm))
    | illegal => rfl
    | foreign =>
      rw [hd] at hj
      exact absurd hop hj

/-- Settles O4: each word is the encoding of the instruction its listing names. -/
theorem handAssembledWordsDecode : Obligations.HandAssembledWordsDecode := by
  have read (i : Instr) : decode .rv64 (encode i) = .op i := decodeOfEncodeIsTheInstruction .rv64 i (by simp [Instr.wf])
  exact ⟨read (.faddS 3 1 2 0), read (.fdivD 3 1 2 0), read (.fclassS 10 1), read (.fmsubS 4 1 2 3 0), read (.fnmaddS 8 1 2 3 0),
    read (.fminS 3 1 2), read (.fltS 10 8 1), read (.fcvtLS 15 4 4), read (.fcvtSW 1 10 0), read (.fcvtSD 5 6 0), read (.fsqrtD 9 2 7)⟩

end Sys2Proof

namespace Sys2Proof.Machine

/-! ## Steps that present a word (30_encoding.md R71; 70_reset_and_hazards.md R221) -/

theorem step_present {s : State} {w : InstrWord} {rest : List HostAction} (h : s.inputs = .present w :: rest) :
    step s = presentWord w { s with inputs := rest } := by
  simp [step, dropInput, h]

/-- Settles O7: the presented word leaves the queue and is decoded to the instruction. -/
theorem stepRunsTheDecodedInstruction : Obligations.StepRunsTheDecodedInstruction := by
  intro s w rest i hin hd
  rw [step_present hin, presentWord, hd]

/-- Settles O8: the empty queue, and the decoder's three other answers. -/
theorem stepOnWordsThatAreNoOperation : Obligations.StepOnWordsThatAreNoOperation := by
  refine fun s => ⟨fun hin => by rw [step, hin], fun w rest hin => ?_⟩
  rw [step_present hin, presentWord]
  refine ⟨fun hd => ?_, fun u hd => ?_, fun hd => ?_⟩ <;> rw [hd]
  exact rfl

end Sys2Proof.Machine

/-! # The control path family: the gate, the Resolver, the Translator and the sticky flags

The gate parameter, fp_enabled and fflags reach an operation through the gate alone: where the gate decides the same, `exec` does the same
to the rest of the state and ORs the same flags into fflags (`exec_withControl`). That holds of the shared hand-backs, hence of the shapes
of an operation, hence of the 48 instructions, and the statements about the gate, fp_enabled and fflags follow from it. -/

namespace Sys2Proof.Machine

/-! ## The Resolver and the Translator (40_control_path.md R85, R89) -/

/-- Settles O20: every code is looked up in the same map, code 7 after frm is put in its place. -/
theorem resolverMapsCodes : Obligations.ResolverMapsCodes := by
  intro s
  have hdyn : resolve s 7#3 = directiveOf s.frm := rfl
  refine ⟨rfl, rfl, rfl, rfl, rfl, rfl, rfl, fun h => ?_, fun h => ?_⟩
  · rw [hdyn, resolve, if_neg h]
  · rw [hdyn, h]
    rfl

/-- Settles O32: lib_flags has the order of fflags. -/
theorem translatorOrsEachFlagIntoItsBit : Obligations.TranslatorOrsEachFlagIntoItsBit :=
  ⟨fun raised k _ => by rw [translate_eq], fun _ => rfl⟩

/-! ## A gate that fails (40_control_path.md R81) -/

theorem exec_of_gateFails {i : Instr} {s : State} (hw : i.wf s.build.xlen = true) (hg : gateFails (gated s.build i) s = true) :
    exec i s = .next (takeTrap s) := by
  obtain ⟨_, _, _, _, -, hgated, he⟩ | ⟨_, _, _, -, hgated, he⟩ | ⟨_, _, _, -, hgated, -, he⟩ | ⟨_, _, -, hgated, -, he⟩ |
    ⟨_, _, -, hgated, -, he⟩ := exec_shape i <;> rw [hgated] at hg <;> rw [he]
  · rw [behindXlen_of_wf hw, roundingOp_gate hg]
  · rw [behindXlen_of_wf hw, roundingOp_gate hg]
  · rw [plainOp_gate hg]
  · rw [plainOp_gate hg]
  · rw [plainOp_gate hg]

/-! ## FCLASS (40_control_path.md R83) -/

theorem exec_classInstr (fmt : Fmt) (rd rs1 : Reg) (s : State) :
    exec (Reference.classInstr fmt rd rs1) s = plainOp s.build.classifyGated (classifyBody fmt rd rs1) s := by
  cases fmt <;> rfl

theorem completed_classInstr {s : State} (h : gateFails s.build.classifyGated s = false) (fmt : Fmt) (rd rs1 : Reg) :
    Completed s (exec (Reference.classInstr fmt rd rs1) s) := by
  rw [exec_classInstr, plainOp_runs h]
  exact ⟨_, _, rfl, completeInt_outcomes rd _ s, by simp⟩

/-- Settles O19: FCLASS runs exactly when a gate that stands before it passes. -/
theorem classificationFollowsItsGateParameter : Obligations.ClassificationFollowsItsGateParameter := by
  refine ⟨rfl, fun fmt rd rs1 s => ⟨fun hc => ?_, fun hc => ⟨fun ⟨hp, hen⟩ => ?_, fun hpass => ?_⟩⟩⟩
  · exact completed_classInstr ((gateFails_eq_false_iff _ s).mpr (.inr (.inl hc))) fmt rd rs1
  · rw [exec_classInstr, plainOp_gate (by simp [gateFails, hp, hc, hen])]
    rfl
  · exact completed_classInstr ((gateFails_eq_false_iff _ s).mpr (hpass.imp_right .inr)) fmt rd rs1

/-! ## No step but the host's clears a flag (40_control_path.md R92) -/

theorem presentWord_next_cases {w : InstrWord} {s t : State} (h : presentWord w s = .next t) :
    t = takeTrap s ∨ ∃ i, exec i s = .next t := by
  unfold presentWord at h
  split at h
  · exact .inr ⟨_, h⟩
  · cases h
  · cases h
    exact .inl rfl
  · cases h

theorem hostWrite_fflags {a : HostAction} (hw : ∀ v, a ≠ .writeFflags v) (hc : ∀ v, a ≠ .writeFcsr v) (hr : a ≠ .reset)
    (s : State) : (hostWrite a s).fflags = s.fflags := by
  cases a with
  | writeFflags v => exact absurd rfl (hw v)
  | writeFcsr v => exact absurd rfl (hc v)
  | reset => exact absurd rfl hr
  | readCsr csr rd => exact writeX_fflags rd _ s
  | loadX r v => exact writeX_fflags r v s
  | _ => rfl

theorem step_of_hostWrite {s : State} {a : HostAction} {rest : List HostAction} (hin : s.inputs = a :: rest)
    (hp : ∀ w, a ≠ .present w) : step s = .next (hostWrite a (dropInput s)) := by
  cases a with
  | present w => exact absurd rfl (hp w)
  | _ => simp only [step, hin]

/-- Settles O11: an idle step, a trap and the host's other moves leave fflags alone, and an operation ORs bits in. -/
theorem onlyTheHostClearsFlags : Obligations.OnlyTheHostClearsFlags := by
  intro s t h hwrite hfcsr hreset
  have unchanged (ht : t.fflags = s.fflags) : ∃ f, t.fflags = s.fflags ||| f := ⟨0#5, by simp [ht]⟩
  cases hin : s.inputs with
  | nil =>
    rw [step, hin] at h
    cases h
    exact unchanged rfl
  | cons a rest =>
    by_cases ha : ∃ w, a = .present w
    · obtain ⟨w, rfl⟩ := ha
      rw [step_present hin] at h
      obtain rfl | ⟨i, hi⟩ := presentWord_next_cases h
      · exact unchanged rfl
      · obtain ⟨f, hf, -⟩ := flagsOnlyAccumulate i _ t hi
        exact ⟨f, hf⟩
    · rw [step_of_hostWrite hin (not_exists.mp ha)] at h
      cases h
      refine unchanged (hostWrite_fflags (fun v e => ?_) (fun v e => ?_) (fun e => ?_) (dropInput s))
      · exact hwrite v rest (e ▸ hin)
      · exact hfcsr v rest (e ▸ hin)
      · exact hreset rest (e ▸ hin)

/-! ## The control fields seen by an operation -/

/-- The state with GATE_PRESENT, fp_enabled and fflags put to the given values. -/
def State.withControl (s : State) (present on : Bool) (v : FlagSet) : State :=
  { s with build := { s.build with gatePresent := present }, fpEnabled := on, fflags := v }

/-- The gate decides the same under `present` and `on` as in `s`. -/
def SameGate (s : State) (present on : Bool) : Prop := (present && !on) = (s.build.gatePresent && !s.fpEnabled)

section WithControl
variable (s : State) (present on : Bool) (v : FlagSet)

theorem withControl_self : s.withControl s.build.gatePresent s.fpEnabled s.fflags = s := rfl

theorem gateFails_withControl {s : State} {present on : Bool} (hsame : SameGate s present on) (isGated : Bool) :
    gateFails isGated (s.withControl present on v) = gateFails isGated s := by
  unfold SameGate at hsame
  simp only [gateFails, Bool.and_right_comm _ isGated, ← hsame]
  rfl

theorem takeTrap_withControl : takeTrap (s.withControl present on v) = (takeTrap s).withControl present on (v ||| 0#5) := by
  rw [BitVec.or_zero]
  rfl

theorem accumulate_withControl (raised : FlagSet) :
    accumulate raised (s.withControl present on v) = (accumulate raised s).withControl present on (v ||| raised) := by
  simp only [accumulate_eq]
  rfl

theorem writeX_withControl (rd : Reg) (w : XWord) :
    writeX rd w (s.withControl present on v) = (writeX rd w s).withControl present on v := by
  unfold writeX
  split <;> rfl

theorem countDraw_withControl : countDraw (s.withControl present on v) = (countDraw s).withControl present on v := by
  cases hn : s.build.nanMode with
  | canonical => rw [countDraw_canonical hn, countDraw_canonical (s := s.withControl present on v) hn]
  | propagate =>
    rw [countDraw_propagate hn, countDraw_propagate (s := s.withControl present on v) hn]
    rfl

theorem nanPattern_withControl (fmt : Fmt) : nanPattern fmt (s.withControl present on v) = nanPattern fmt s := by
  cases fmt <;> rfl

theorem completeInt_withControl (rd : Reg) (w : XWord) :
    completeInt rd w (s.withControl present on v) = (completeInt rd w s).withControl present on v := by
  rw [completeInt, writeX_withControl]
  rfl

theorem deliverFp_withControl (fmt : Fmt) (rd : Reg) (r : FpResult fmt) :
    deliverFp fmt rd r (s.withControl present on v) = (deliverFp fmt rd r s).withControl present on v := by
  cases r with
  | number w => rfl
  | nan =>
    simp only [deliverFp, nanPattern_withControl, countDraw_withControl]
    rfl

theorem finishFp_withControl (fmt : Fmt) (rd : Reg) (p : Raised (FpResult fmt)) :
    finishFp fmt rd p (s.withControl present on v) = (finishFp fmt rd p s).withControl present on (v ||| p.raised) := by
  simp only [finishFp, accumulate_withControl, deliverFp_withControl]

theorem finishInt_withControl (rd : Reg) (p : Raised XWord) :
    finishInt rd p (s.withControl present on v) = (finishInt rd p s).withControl present on (v ||| p.raised) := by
  simp only [finishInt, accumulate_withControl, completeInt_withControl]

end WithControl

/-- A result with its next state, if it has one, put through `u`. -/
def mapNext (u : State → State) : StepResult → StepResult
  | .next t => .next (u t)
  | .fault e => .fault e
  | .refused q => .refused q

/-- The body of an operation does the same to the rest of the state under all control fields, and ORs the same flags into fflags. -/
def BodyIgnoresControl (body : State → State) : Prop :=
  ∀ s, ∃ c, ∀ present on v, body (s.withControl present on v) = (body s).withControl present on (v ||| c)

/-- The operation on `s` answers the same, and ORs the same flags into fflags, under all control fields on which the gate decides the
same. -/
def IgnoresControl (op : State → StepResult) (s : State) : Prop :=
  ∃ c, ∀ present on v, SameGate s present on →
    op (s.withControl present on v) = mapNext (·.withControl present on (v ||| c)) (op s)

namespace BodyIgnoresControl

theorem finishFp {fmt : Fmt} {rd : Reg} {p : State → Raised (FpResult fmt)}
    (hp : ∀ s present on v, p (s.withControl present on v) = p s) : BodyIgnoresControl fun s => finishFp fmt rd (p s) s :=
  fun s => ⟨(p s).raised, fun present on v => by simp only [hp, finishFp_withControl]⟩

theorem finishInt {rd : Reg} {p : State → Raised XWord}
    (hp : ∀ s present on v, p (s.withControl present on v) = p s) : BodyIgnoresControl fun s => finishInt rd (p s) s :=
  fun s => ⟨(p s).raised, fun present on v => by simp only [hp, finishInt_withControl]⟩

theorem completeInt {rd : Reg} {p : State → XWord}
    (hp : ∀ s present on v, p (s.withControl present on v) = p s) : BodyIgnoresControl fun s => completeInt rd (p s) s :=
  fun s => ⟨0#5, fun present on v => by simp only [hp, completeInt_withControl, BitVec.or_zero]⟩

end BodyIgnoresControl

namespace IgnoresControl

theorem plainOp {isGated : Bool} {body : State → State} (hbody : BodyIgnoresControl body) (s : State) :
    IgnoresControl (plainOp isGated body) s := by
  cases hg : gateFails isGated s with
  | true =>
    refine ⟨0#5, fun present on v hsame => ?_⟩
    rw [plainOp_gate hg, plainOp_gate ((gateFails_withControl v hsame isGated).trans hg), takeTrap_withControl]
    rfl
  | false =>
    obtain ⟨c, hc⟩ := hbody s
    refine ⟨c, fun present on v hsame => ?_⟩
    rw [plainOp_runs hg, plainOp_runs ((gateFails_withControl v hsame isGated).trans hg), hc]
    rfl

theorem roundingOp {rm : RoundingCode} {body : Directive → State → State} (hbody : ∀ dir, BodyIgnoresControl (body dir)) (s : State) :
    IgnoresControl (roundingOp rm body) s := by
  cases hg : gateFails true s with
  | true =>
    refine ⟨0#5, fun present on v hsame => ?_⟩
    rw [roundingOp_gate hg, roundingOp_gate ((gateFails_withControl v hsame true).trans hg), takeTrap_withControl]
    rfl
  | false =>
    cases hr : resolve s rm with
    | none =>
      refine ⟨0#5, fun present on v _ => ?_⟩
      rw [roundingOp_unresolved hr, roundingOp_unresolved (s := s.withControl present on v) hr, takeTrap_withControl]
      rfl
    | some dir =>
      obtain ⟨c, hc⟩ := hbody dir (setLibRm dir s)
      refine ⟨c, fun present on v hsame => ?_⟩
      rw [roundingOp_runs hg hr, roundingOp_runs ((gateFails_withControl v hsame true).trans hg) hr]
      exact congrArg _ (hc present on v)

theorem onRv64 {op : State → StepResult} {s : State} (h : IgnoresControl op s) : IgnoresControl (onRv64 op) s := by
  obtain ⟨c, hc⟩ := h
  refine ⟨c, fun present on v hsame => ?_⟩
  cases hx : s.build.xlen with
  | rv32 =>
    rw [onRv64_rv32 hx, onRv64_rv32 (s := s.withControl present on v) hx]
    rfl
  | rv64 => rw [onRv64_rv64 hx, onRv64_rv64 (s := s.withControl present on v) hx, hc present on v hsame]

end IgnoresControl

theorem exec_ignoresControl (i : Instr) (s : State) : IgnoresControl (exec i) s := by
  cases i with
  | fmaddS | fmsubS | fnmsubS | fnmaddS | fmaddD | fmsubD | fnmsubD | fnmaddD | faddS | fsubS | fmulS | fdivS | fsqrtS | faddD | fsubD
  | fmulD | fdivD | fsqrtD | fcvtSW | fcvtSWu | fcvtDW | fcvtDWu =>
    refine IgnoresControl.roundingOp (fun dir => ?_) s
    exact .finishFp fun _ _ _ _ => rfl
  | fcvtSD rd rs1 rm =>
    change IgnoresControl (roundingOp rm fun dir t => finishFp .S rd (narrow t.build (readPort .D rs1 t) dir) t) s
    exact .roundingOp (fun _ => .finishFp fun _ _ _ _ => rfl) s
  | fcvtDS rd rs1 rm =>
    change IgnoresControl (roundingOp rm fun _ t => finishFp .D rd (widen t.build (readPort .S rs1 t)) t) s
    exact .roundingOp (fun _ => .finishFp fun _ _ _ _ => rfl) s
  | fcvtWS | fcvtWuS | fcvtWD | fcvtWuD =>
    refine IgnoresControl.roundingOp (fun dir => ?_) s
    exact .finishInt fun _ _ _ _ => rfl
  | fcvtSL | fcvtSLu | fcvtDL | fcvtDLu =>
    refine .onRv64 (IgnoresControl.roundingOp (fun dir => ?_) s)
    exact .finishFp fun _ _ _ _ => rfl
  | fcvtLS | fcvtLuS | fcvtLD | fcvtLuD =>
    refine .onRv64 (IgnoresControl.roundingOp (fun dir => ?_) s)
    exact .finishInt fun _ _ _ _ => rfl
  | fminS | fmaxS | fminD | fmaxD =>
    refine IgnoresControl.plainOp ?_ s
    exact .finishFp fun _ _ _ _ => rfl
  | fleS | fltS | feqS | fleD | fltD | feqD =>
    refine IgnoresControl.plainOp ?_ s
    exact .finishInt fun _ _ _ _ => rfl
  | fclassS | fclassD =>
    refine IgnoresControl.plainOp (isGated := s.build.classifyGated) ?_ s
    exact .completeInt fun _ _ _ _ => rfl

/-- An operation that answers a next state, run under other control fields on which the gate decides the same. The state stands before and
after with its own control fields, fflags apart. -/
theorem exec_withControl {i : Instr} {s t : State} (h : exec i s = .next t) :
    ∃ c, t.fflags = s.fflags ||| c ∧ ∀ present on v, SameGate s present on →
      exec i (s.withControl present on v) = .next (t.withControl present on (v ||| c)) := by
  obtain ⟨c, hc⟩ := exec_ignoresControl i s
  have hnext present on v (hsame : SameGate s present on) :
      exec i (s.withControl present on v) = .next (t.withControl present on (v ||| c)) := by
    rw [hc present on v hsame, h]
    rfl
  have hself := hnext s.build.gatePresent s.fpEnabled s.fflags rfl
  rw [withControl_self, h] at hself
  injection hself with hself
  exact ⟨c, congrArg State.fflags hself, hnext⟩

/-- Settles O17: a failing gate traps, and with fp_enabled = 1 the gate passes present or not. -/
theorem gateTrapsWhenFpIsDisabled : Obligations.GateTrapsWhenFpIsDisabled := by
  refine ⟨fun i s hw hp hg hen => ?_, fun i s t hen h present => ?_⟩
  · exact exec_of_gateFails hw (by simp [gateFails, hp, hg, hen])
  · obtain ⟨c, hfl, hc⟩ := exec_withControl h
    obtain ⟨-, hent, hbuild, -⟩ := (exec_effect h).keepsControl
    have ht : t.withControl present s.fpEnabled (s.fflags ||| c) = { t with build := { s.build with gatePresent := present } } := by
      rw [← hfl, ← hent, ← hbuild]
      rfl
    rw [← ht]
    exact hc present s.fpEnabled s.fflags (by simp [SameGate, hen])

/-- Settles O18: without the gate fp_enabled decides nothing. -/
theorem withoutTheGateTheEnableIsIgnored : Obligations.WithoutTheGateTheEnableIsIgnored := by
  intro i s on hp
  have hsame : SameGate s s.build.gatePresent on := by simp [SameGate, hp]
  refine ⟨fun t h => ?_, fun q h => ?_⟩
  · obtain ⟨c, hfl, hc⟩ := exec_withControl h
    obtain ⟨-, -, hbuild, -⟩ := (exec_effect h).keepsControl
    have ht : t.withControl s.build.gatePresent on (s.fflags ||| c) = { t with fpEnabled := on } := by
      rw [← hfl, ← hbuild]
      rfl
    rw [← ht]
    exact hc s.build.gatePresent on s.fflags hsame
  · obtain ⟨c, hc⟩ := exec_ignoresControl i s
    have hq := hc s.build.gatePresent on s.fflags hsame
    rw [h] at hq
    exact hq

/-- Settles O25: fflags alone is changed, which the gate does not look at. -/
theorem flagContributionIsIndependentOfFlags : Obligations.FlagContributionIsIndependentOfFlags := by
  intro i s t h
  obtain ⟨c, -, hc⟩ := exec_withControl h
  obtain ⟨-, hent, hbuild, -⟩ := (exec_effect h).keepsControl
  refine ⟨c, fun v => ?_⟩
  have ht : t.withControl s.build.gatePresent s.fpEnabled (v ||| c) = { t with fflags := v ||| c } := by
    rw [← hent, ← hbuild]
    rfl
  rw [← ht]
  exact hc s.build.gatePresent s.fpEnabled v rfl

end Sys2Proof.Machine

/-! # The numerics family: the formats, their patterns as real numbers, and the exact rounding

A finite pattern is a whole number of MINSUB = 2^(emin - F) with a sign, and `pack` is the way back (41_ieee_numerics.md R103, R104). The
exact rounding over whole numbers is tied to the reals through two facts about a magnitude m: `floorLog2 m` is the floor of log2 of its
value, and `split m q` is the floor of m / 2^q with the place of the remainder (`IsSplit`). All of R106 to R109 reads off these. -/

namespace Sys2Proof.Machine

/-! ## Fields and kinds of NaN (41_ieee_numerics.md R101, R102) -/

/-- exp(v) is the E bits above the fraction. -/
theorem expOf_eq_extractLsb' (fmt : Fmt) (v : Pattern fmt) : expOf fmt v = (v.extractLsb' (fracBits fmt) (expBits fmt)).toNat := by
  rw [expOf, BitVec.extractLsb'_toNat, Nat.shiftRight_eq_div_pow]

/-- frac(v) is the low F bits. -/
theorem fracOf_eq_extractLsb' (fmt : Fmt) (v : Pattern fmt) : fracOf fmt v = (v.extractLsb' 0 (fracBits fmt)).toNat := by
  rw [fracOf, BitVec.extractLsb'_toNat, Nat.shiftRight_zero]

theorem expMax_lt (fmt : Fmt) : expMax fmt < 2 ^ expBits fmt := by
  cases fmt <;> decide

theorem isNaN_iff (fmt : Fmt) (v : Pattern fmt) : isNaN fmt v = true ↔ expOf fmt v = expMax fmt ∧ fracOf fmt v ≠ 0 := by
  simp [isNaN]

theorem isNaN_iff_bits (fmt : Fmt) (v : Pattern fmt) :
    isNaN fmt v = true ↔ v.extractLsb' (fracBits fmt) (expBits fmt) = BitVec.ofNat _ (expMax fmt)
      ∧ v.extractLsb' 0 (fracBits fmt) ≠ 0#(fracBits fmt) := by
  rw [isNaN_iff, expOf_eq_extractLsb', fracOf_eq_extractLsb', ← BitVec.toNat_inj, BitVec.toNat_ofNat,
    Nat.mod_eq_of_lt (expMax_lt fmt), ne_eq, ne_eq, ← BitVec.toNat_inj, BitVec.toNat_zero]

theorem isQNaN_iff (c : Config) (fmt : Fmt) (v : Pattern fmt) :
    isQNaN c fmt v = true ↔ isNaN fmt v = true ∧ quietBit fmt v = !c.snanBitIsOne := by
  rw [isQNaN, Bool.and_eq_true, bne_iff_ne, Bool.eq_not]

theorem isSNaN_iff (c : Config) (fmt : Fmt) (v : Pattern fmt) :
    isSNaN c fmt v = true ↔ isNaN fmt v = true ∧ quietBit fmt v = c.snanBitIsOne := by
  simp [isSNaN]

/-- Settles O58: each clause is a field of the pattern read as bits, or a kind of NaN told by the quiet bit. -/
theorem naNKindsByExponentFractionAndQuietBit : Obligations.NaNKindsByExponentFractionAndQuietBit :=
  ⟨rfl,
    fun _ v => ⟨rfl, expOf_eq_extractLsb' .S v, fracOf_eq_extractLsb' .S v, isNaN_iff_bits .S v, isQNaN_iff _ .S v, isSNaN_iff _ .S v,
      isQNaN_iff _ .S v, isSNaN_iff _ .S v⟩,
    fun _ v => ⟨rfl, expOf_eq_extractLsb' .D v, fracOf_eq_extractLsb' .D v, isNaN_iff_bits .D v, isQNaN_iff _ .D v, isSNaN_iff _ .D v,
      isQNaN_iff _ .D v, isSNaN_iff _ .D v⟩⟩

/-! ## The NaN draws (41_ieee_numerics.md R112) -/

/-- The fraction of a NaN draw. -/
def drawnFrac (c : Config) (fmt : Fmt) (payload : Nat) : Nat :=
  if c.snanBitIsOne then (if payload = 0 then 2 ^ (fracBits fmt - 1) - 1 else payload) else 2 ^ (fracBits fmt - 1) + payload

theorem quietNaN_eq (c : Config) (fmt : Fmt) (bits : BitVec 64) :
    quietNaN c fmt bits
      = ofFields fmt (bits.getLsbD 63) (expMax fmt) (drawnFrac c fmt (bits.toNat % 2 ^ (fracBits fmt - 1))) := by
  unfold quietNaN drawnFrac
  cases c.snanBitIsOne <;> rfl

/-- A fraction is that of a quiet NaN: not 0, and its top bit as SNAN_BIT_IS_ONE wants it. -/
def IsQuietFrac (c : Config) (fmt : Fmt) (f : Nat) : Prop :=
  f ≠ 0 ∧ f < 2 ^ fracBits fmt ∧ (2 ^ (fracBits fmt - 1) ≤ f ↔ c.snanBitIsOne = false)

/-- A quiet NaN by its exponent and fraction. -/
theorem isQNaN_iff_fields (c : Config) (fmt : Fmt) (v : Pattern fmt) :
    isQNaN c fmt v = true ↔ expOf fmt v = expMax fmt ∧ IsQuietFrac c fmt (fracOf fmt v) := by
  have hlt := fracOf_lt fmt v
  rw [isQNaN_iff, isNaN_iff, quietBit_eq, IsQuietFrac]
  cases c.snanBitIsOne <;> simp [hlt, and_assoc]

theorem two_pow_fracBits (fmt : Fmt) : 2 ^ fracBits fmt = 2 * 2 ^ (fracBits fmt - 1) ∧ 2 ≤ 2 ^ (fracBits fmt - 1) := by
  cases fmt <;> decide

theorem isQuietFrac_drawnFrac (c : Config) (fmt : Fmt) {payload : Nat} (h : payload < 2 ^ (fracBits fmt - 1)) :
    IsQuietFrac c fmt (drawnFrac c fmt payload) := by
  obtain ⟨hF, hq⟩ := two_pow_fracBits fmt
  unfold IsQuietFrac drawnFrac
  rw [hF]
  cases c.snanBitIsOne with
  | true => by_cases h0 : payload = 0 <;> simp [h0] <;> omega
  | false => simp; omega

/-- Every quiet fraction is drawn, by its bits below the quiet bit. -/
theorem drawnFrac_mod {c : Config} {fmt : Fmt} {f : Nat} (h : IsQuietFrac c fmt f) :
    drawnFrac c fmt (f % 2 ^ (fracBits fmt - 1)) = f := by
  obtain ⟨h0, hlt, hq⟩ := h
  rw [(two_pow_fracBits fmt).1] at hlt
  unfold drawnFrac
  cases hc : c.snanBitIsOne with
  | true =>
    have hlow : f < 2 ^ (fracBits fmt - 1) := by simpa [hc] using hq
    simp [Nat.mod_eq_of_lt hlow, h0]
  | false =>
    have hhigh : 2 ^ (fracBits fmt - 1) ≤ f := hq.mpr hc
    rw [Nat.mod_eq_sub_mod hhigh, Nat.mod_eq_of_lt (by omega)]
    simp [hhigh]

/-- Settles O38: a draw has a quiet fraction, and a quiet NaN is drawn from its own sign and fraction. -/
theorem naNDrawsAreExactlyTheQuietNaNs : Obligations.NaNDrawsAreExactlyTheQuietNaNs := by
  refine fun c fmt => ⟨fun bits => ?_, fun v hv => ?_⟩
  · have hq := isQuietFrac_drawnFrac c fmt (Nat.mod_lt bits.toNat (Nat.two_pow_pos (fracBits fmt - 1)))
    obtain ⟨-, hlt, -⟩ := id hq
    rw [quietNaN_eq, isQNaN_iff_fields, expOf_ofFields fmt _ (expMax_lt fmt) hlt, fracOf_ofFields fmt _ (expMax_lt fmt) hlt]
    exact ⟨rfl, hq⟩
  · obtain ⟨hexp, hfrac⟩ := (isQNaN_iff_fields c fmt v).mp hv
    have h52 : fracOf fmt v < 2 ^ fracBits .D := (fracOf_lt fmt v).trans_le (Nat.pow_le_pow_right two_pos (by cases fmt <;> decide))
    have hsign : (ofFields .D (signOf fmt v) 0 (fracOf fmt v)).getLsbD 63 = signOf fmt v :=
      signOf_ofFields .D _ (Nat.two_pow_pos _) h52
    have hpayload : (ofFields .D (signOf fmt v) 0 (fracOf fmt v)).toNat % 2 ^ (fracBits fmt - 1)
        = fracOf fmt v % 2 ^ (fracBits fmt - 1) := by
      rw [ofFields_toNat .D _ (Nat.two_pow_pos _) h52]
      cases fmt <;> simp only [fracBits, Fmt.width] <;> omega
    refine ⟨ofFields .D (signOf fmt v) 0 (fracOf fmt v), ?_⟩
    rw [quietNaN_eq, hsign, hpayload, drawnFrac_mod hfrac, ← hexp, ofFields_fields]

/-! ## Packing and the named constants (41_ieee_numerics.md R103, R104, R108, R111) -/

theorem two_zpow_eq_mul {a b : ℤ} (k : ℕ) (h : a = k + b) : (2 : ℝ) ^ a = 2 ^ k * (2 : ℝ) ^ b := by
  rw [h, zpow_add₀ two_ne_zero, zpow_natCast]

theorem pack_of_subnormal {fmt : Fmt} (s : Bool) {f : Nat} (hf : f < 2 ^ fracBits fmt) : pack fmt s f = ofFields fmt s 0 f := if_pos hf

/-- A normal number of MINSUB is packed with its exponent and fraction. -/
theorem pack_of_normal {fmt : Fmt} (s : Bool) {x f : Nat} (hf : f < 2 ^ fracBits fmt) :
    pack fmt s ((2 ^ fracBits fmt + f) * 2 ^ x) = ofFields fmt s (x + 1) f := by
  have hge : ¬ (2 ^ fracBits fmt + f) * 2 ^ x < 2 ^ fracBits fmt := by
    have := Nat.le_mul_of_pos_right (2 ^ fracBits fmt + f) (Nat.two_pow_pos x)
    omega
  have hlog : ((2 ^ fracBits fmt + f) * 2 ^ x).log2 = fracBits fmt + x := by
    rw [Nat.log2_eq_iff (by positivity), pow_add, pow_succ, pow_add]
    constructor
    · gcongr; omega
    · rw [mul_right_comm]; gcongr; omega
  rw [pack, if_neg hge, hlog, Nat.add_sub_cancel_left, Nat.mul_div_cancel _ (Nat.two_pow_pos x), Nat.add_sub_cancel_left]

theorem units_of_exp_zero {fmt : Fmt} {v : Pattern fmt} (h : expOf fmt v = 0) : units fmt v = fracOf fmt v := if_pos h

theorem units_of_exp_ne_zero {fmt : Fmt} {v : Pattern fmt} (h : expOf fmt v ≠ 0) :
    units fmt v = (2 ^ fracBits fmt + fracOf fmt v) * 2 ^ (expOf fmt v - 1) := if_neg h

theorem pack_signOf_units (fmt : Fmt) (v : Pattern fmt) : pack fmt (signOf fmt v) (units fmt v) = v := by
  by_cases h : expOf fmt v = 0
  · rw [units_of_exp_zero h, pack_of_subnormal _ (fracOf_lt fmt v), ← h, ofFields_fields]
  · rw [units_of_exp_ne_zero h, pack_of_normal _ (fracOf_lt fmt v), Nat.sub_add_cancel (Nat.pos_of_ne_zero h), ofFields_fields]

/-- The real value of a pattern is its sign times its units of MINSUB. -/
theorem value_eq_units (fmt : Fmt) (v : Pattern fmt) :
    Reference.value fmt v = Reference.signFactor (signOf fmt v) * units fmt v * (2 : ℝ) ^ (emin fmt - fracBits fmt) := by
  by_cases h : expOf fmt v = 0
  · rw [Reference.value, if_pos h, units_of_exp_zero h]
  · have hexp : (expOf fmt v : ℤ) - bias fmt - fracBits fmt = ((expOf fmt v - 1 : ℕ) : ℤ) + (emin fmt - fracBits fmt) := by
      rw [emin]; omega
    rw [Reference.value, if_neg h, units_of_exp_ne_zero h, two_zpow_eq_mul _ hexp]
    push_cast
    ring

/-- Settles O35: neither half needs the pattern to be finite. -/
theorem packingTheValueGivesThePatternBack : Obligations.PackingTheValueGivesThePatternBack :=
  fun fmt v _ _ => ⟨pack_signOf_units fmt v, value_eq_units fmt v⟩

theorem units_ofFields_zero (fmt : Fmt) (s : Bool) {f : Nat} (hf : f < 2 ^ fracBits fmt) : units fmt (ofFields fmt s 0 f) = f := by
  rw [units_of_exp_zero (expOf_ofFields fmt s (Nat.two_pow_pos _) hf), fracOf_ofFields fmt s (Nat.two_pow_pos _) hf]

theorem units_ofFields_succ (fmt : Fmt) (s : Bool) {x f : Nat} (hx : x + 1 < 2 ^ expBits fmt) (hf : f < 2 ^ fracBits fmt) :
    units fmt (ofFields fmt s (x + 1) f) = (2 ^ fracBits fmt + f) * 2 ^ x := by
  have hexp := expOf_ofFields fmt s hx hf
  rw [units_of_exp_ne_zero (by omega), hexp, fracOf_ofFields fmt s hx hf, Nat.add_sub_cancel]

theorem maxUnits_eq (fmt : Fmt) : maxUnits fmt = (2 ^ fracBits fmt + (2 ^ fracBits fmt - 1)) * 2 ^ (expMax fmt - 2) := by
  have hx : (emax fmt - emin fmt).toNat = expMax fmt - 2 := by cases fmt <;> decide
  have hsig : 2 ^ precision fmt - 1 = 2 ^ fracBits fmt + (2 ^ fracBits fmt - 1) := by cases fmt <;> decide
  rw [maxUnits, hx, hsig]

/-- MAXF has the exponent below EXPMAX and a fraction of ones. -/
theorem maxFinite_eq_ofFields (fmt : Fmt) (s : Bool) : maxFinite fmt s = ofFields fmt s (expMax fmt - 2 + 1) (2 ^ fracBits fmt - 1) := by
  rw [maxFinite, maxUnits_eq, pack_of_normal s (Nat.sub_one_lt (Nat.two_pow_pos _).ne')]

/-- The largest finite number of MINSUB, in the reals, is MAXF. -/
theorem maxf_eq_maxUnits (fmt : Fmt) : Reference.maxf fmt = maxUnits fmt * (2 : ℝ) ^ (emin fmt - fracBits fmt) := by
  have hexp : emax fmt - (fracBits fmt : ℤ) = ((emax fmt - emin fmt).toNat : ℤ) + (emin fmt - fracBits fmt) := by
    cases fmt <;> decide
  rw [Reference.maxf, maxUnits, two_zpow_eq_mul _ hexp, Nat.cast_mul, Nat.cast_sub Nat.one_le_two_pow]
  push_cast
  ring

theorem value_ofFields_false (fmt : Fmt) {x f : Nat} (hx : x < 2 ^ expBits fmt) (hf : f < 2 ^ fracBits fmt) :
    Reference.value fmt (ofFields fmt false x f) = units fmt (ofFields fmt false x f) * (2 : ℝ) ^ (emin fmt - fracBits fmt) := by
  rw [value_eq_units, signOf_ofFields fmt _ hx hf, Reference.signFactor, if_neg Bool.false_ne_true, one_mul]

theorem value_maxFinite (fmt : Fmt) : Reference.value fmt (maxFinite fmt false) = Reference.maxf fmt := by
  have hx : expMax fmt - 2 + 1 < 2 ^ expBits fmt := by cases fmt <;> decide
  have hf : 2 ^ fracBits fmt - 1 < 2 ^ fracBits fmt := Nat.sub_one_lt (Nat.two_pow_pos _).ne'
  rw [maxFinite_eq_ofFields, value_ofFields_false fmt hx hf, units_ofFields_succ fmt _ hx hf, ← maxUnits_eq, maxf_eq_maxUnits]

/-- MINN, the smallest normal, is 2^emin. -/
theorem value_minNormal (fmt : Fmt) : Reference.value fmt (ofFields fmt false 1 0) = (2 : ℝ) ^ emin fmt := by
  have hx : 0 + 1 < 2 ^ expBits fmt := by cases fmt <;> decide
  have hF : (2 : ℝ) ^ emin fmt = 2 ^ fracBits fmt * (2 : ℝ) ^ (emin fmt - fracBits fmt) :=
    two_zpow_eq_mul _ (add_sub_cancel ..).symm
  rw [value_ofFields_false fmt hx (Nat.two_pow_pos _), units_ofFields_succ fmt _ hx (Nat.two_pow_pos _), hF]
  simp

/-- MINSUB, the smallest subnormal, is 2^(emin - F). -/
theorem value_minSubnormal (fmt : Fmt) : Reference.value fmt (ofFields fmt false 0 1) = (2 : ℝ) ^ (emin fmt - fracBits fmt) := by
  have hf : 1 < 2 ^ fracBits fmt := by cases fmt <;> decide
  rw [value_ofFields_false fmt (Nat.two_pow_pos _) hf, units_ofFields_zero fmt _ hf, Nat.cast_one, one_mul]

/-- Settles O33: the largest finite pattern has its fields, the other patterns are evaluated, and the values are those of the fields. -/
theorem namedConstantsOfTheFormats : Obligations.NamedConstantsOfTheFormats := by
  have hS : maxFinite .S false = 0x7F7FFFFF#32 := maxFinite_eq_ofFields .S false
  have hD : maxFinite .D false = 0x7FEFFFFFFFFFFFFF#64 := maxFinite_eq_ofFields .D false
  exact ⟨hS, hD, maxFinite_eq_ofFields .S true, maxFinite_eq_ofFields .D true,
    by decide, by decide, by decide, by decide, by decide, by decide, by decide, by decide, by decide, by decide, by decide, by decide,
    hS ▸ value_maxFinite .S, hD ▸ value_maxFinite .D, value_minNormal .S, value_minNormal .D, value_minSubnormal .S,
    value_minSubnormal .D⟩

/-- Settles O34: the ten entries of the table. -/
theorem overflowResultsByDirection : Obligations.OverflowResultsByDirection :=
  fun _ => ⟨rfl, rfl, rfl, rfl, rfl, rfl, rfl, rfl, rfl, rfl⟩

/-! ## The integer square root (41_ieee_numerics.md R118) -/

/-- Each bit keeps the root in r ≤ sqrt n < r + 2^bits. -/
theorem isqrtFrom_isFloor {n : Nat} : ∀ {bits r : Nat}, r * r ≤ n → n < (r + 2 ^ bits) * (r + 2 ^ bits) →
    isqrtFrom n bits r * isqrtFrom n bits r ≤ n ∧ n < (isqrtFrom n bits r + 1) * (isqrtFrom n bits r + 1)
  | 0, _, hle, hlt => ⟨hle, hlt⟩
  | bits + 1, r, hle, hlt => by
    rw [isqrtFrom]
    split
    next hbit => exact isqrtFrom_isFloor hbit (by rwa [add_assoc, ← two_mul, ← pow_succ'])
    next hbit => exact isqrtFrom_isFloor hle (not_le.mp hbit)

/-- Settles O36: the first bit tried is above the root. -/
theorem integerSquareRootIsTheFloor : Obligations.IntegerSquareRootIsTheFloor := by
  intro n
  have hlt : n < 2 ^ (n.log2 / 2 + 1) * 2 ^ (n.log2 / 2 + 1) := by
    calc n < 2 ^ (n.log2 + 1) := Nat.lt_log2_self
      _ ≤ 2 ^ (n.log2 / 2 + 1 + (n.log2 / 2 + 1)) := Nat.pow_le_pow_right two_pos (by omega)
      _ = 2 ^ (n.log2 / 2 + 1) * 2 ^ (n.log2 / 2 + 1) := pow_add ..
  exact isqrtFrom_isFloor (Nat.zero_le n) (by rwa [zero_add])

/-! ## The floor and the place of the remainder (41_ieee_numerics.md R106) -/

/-- Where a remainder r in [0, 1) lies. -/
def Tail.Places : Tail → ℝ → Prop
  | .zero, r => r = 0
  | .low, r => 0 < r ∧ r < 1 / 2
  | .half, r => r = 1 / 2
  | .high, r => 1 / 2 < r ∧ r < 1

/-- n holds the floor of x and the place of what remains. -/
def IsSplit (n : Nat × Tail) (x : ℝ) : Prop := n.2.Places (x - n.1)

theorem Tail.Places.bounds {t : Tail} {r : ℝ} (h : t.Places r) : 0 ≤ r ∧ r < 1 := by
  cases t <;> simp only [Tail.Places] at h <;> constructor <;> linarith

theorem Tail.Places.pos_iff {t : Tail} {r : ℝ} (h : t.Places r) : 0 < r ↔ t ≠ .zero := by
  cases t <;> simp only [Tail.Places] at h <;> simp <;> linarith

theorem Tail.Places.lt_half_iff {t : Tail} {r : ℝ} (h : t.Places r) : r < 1 / 2 ↔ t = .zero ∨ t = .low := by
  cases t <;> simp only [Tail.Places] at h <;> simp <;> linarith

theorem Tail.Places.half_lt_iff {t : Tail} {r : ℝ} (h : t.Places r) : 1 / 2 < r ↔ t = .high := by
  cases t <;> simp only [Tail.Places] at h <;> simp <;> linarith

theorem IsSplit.floor {n : Nat × Tail} {x : ℝ} (h : IsSplit n x) : ⌊x⌋ = n.1 := by
  obtain ⟨h0, h1⟩ := Tail.Places.bounds h
  rw [Int.floor_eq_iff, Int.cast_natCast]
  constructor <;> linarith

/-- rnd_int over whole numbers is rnd_int of the real number they split. -/
theorem IsSplit.rndInt_eq {n : Nat × Tail} {x : ℝ} (h : IsSplit n x) (dir : Directive) (s : Bool) :
    Reference.rndInt x dir s = rndInt n.1 n.2 dir s := by
  obtain ⟨f, t⟩ := n
  have hr : t.Places (x - f) := h
  have hparity : (f : ℤ) % 2 = 0 ↔ f % 2 = 0 := by omega
  simp only [Reference.rndInt, h.floor, Int.cast_natCast, hr.pos_iff, hr.lt_half_iff, hr.half_lt_iff, hparity]
  cases dir with
  | rtz => rfl
  | rdn | rup => simp only [rndInt]; split <;> rfl
  | rne => cases t <;> simp [rndInt]
  | rmm => cases t <;> simp [rndInt]

/-- The rounding is exact when nothing remains, and only then. -/
theorem IsSplit.rndInt_eq_self_iff {n : Nat × Tail} {x : ℝ} (h : IsSplit n x) (dir : Directive) (s : Bool) :
    (rndInt n.1 n.2 dir s : ℝ) = x ↔ n.2 = .zero := by
  obtain ⟨f, t⟩ := n
  have hr : t.Places (x - f) := h
  constructor
  · intro hx
    have hfloor : (rndInt f t dir s : ℤ) = f := by rw [← h.floor, ← hx, Int.floor_natCast]
    by_contra ht
    have hpos := hr.pos_iff.mpr ht
    rw [← hx, Nat.cast_inj.mp hfloor, sub_self] at hpos
    exact lt_irrefl _ hpos
  · rintro rfl
    have hx : x = f := sub_eq_zero.mp hr
    cases dir <;> simp [rndInt, hx]

theorem le_rndInt (f : Nat) (t : Tail) (dir : Directive) (s : Bool) : f ≤ rndInt f t dir s := by
  cases dir with
  | rtz => exact le_rfl
  | rdn | rup => simp only [rndInt]; split <;> omega
  | rne =>
    cases t with
    | half => simp only [rndInt]; split <;> omega
    | _ => simp only [rndInt]; omega
  | rmm => cases t <;> simp only [rndInt] <;> omega

/-! ## Scaling by a power of two -/

theorem scaled_pos {num den : Nat} (hn : 0 < num) (hd : 0 < den) (q : Int) : 0 < (scaled num den q).1 ∧ 0 < (scaled num den q).2 := by
  simp only [scaled]
  constructor <;> positivity

/-- The scaled quotient is the quotient over 2^q. -/
theorem scaled_div (num den : Nat) (q : Int) : ((scaled num den q).1 : ℝ) / (scaled num den q).2 = num / den / (2 : ℝ) ^ q := by
  have hq : (2 : ℝ) ^ q = 2 ^ q.toNat / 2 ^ (-q).toNat := by
    conv_lhs => rw [← Int.toNat_sub_toNat_neg q]
    rw [zpow_sub₀ two_ne_zero, zpow_natCast, zpow_natCast]
  rw [hq, scaled]
  push_cast
  field_simp

/-! ## Magnitudes as real numbers -/

/-- The magnitude as the real number it stands for. -/
noncomputable def Magnitude.val : Magnitude → ℝ
  | .ratio num den => num / den
  | .root num den => Real.sqrt (num / den)

/-- A positive magnitude, which is all that is rounded (41_ieee_numerics.md R106). -/
def Magnitude.Pos : Magnitude → Prop
  | .ratio num den => 0 < num ∧ 0 < den
  | .root num den => 0 < num ∧ 0 < den

theorem Magnitude.Pos.val_pos {m : Magnitude} (h : m.Pos) : 0 < m.val := by
  cases m with
  | ratio num den =>
    obtain ⟨hn, hd⟩ := h
    exact div_pos (Nat.cast_pos.mpr hn) (Nat.cast_pos.mpr hd)
  | root num den =>
    obtain ⟨hn, hd⟩ := h
    exact Real.sqrt_pos.mpr (div_pos (Nat.cast_pos.mpr hn) (Nat.cast_pos.mpr hd))

/-! ## The exponent -/

theorem log_eq_of_zpow_le_of_lt {x : ℝ} {e : ℤ} (hle : (2 : ℝ) ^ e ≤ x) (hlt : x < (2 : ℝ) ^ (e + 1)) : Int.log 2 x = e := by
  have hx : 0 < x := (zpow_pos two_pos e).trans_le hle
  have h1 := (Int.zpow_le_iff_le_log one_lt_two hx).mp (by exact_mod_cast hle)
  have h2 := (Int.lt_zpow_iff_log_lt one_lt_two hx).mp (by exact_mod_cast hlt)
  omega

/-- The quotient lies within a factor two of 2^e, for e the difference of the exponents. -/
theorem ratio_bounds {num den : Nat} (hn : 0 < num) (hd : 0 < den) {e : ℤ} (he : e = (num.log2 : ℤ) - den.log2) :
    (2 : ℝ) ^ (e - 1) ≤ num / den ∧ (num : ℝ) / den < (2 : ℝ) ^ (e + 1) := by
  have hnle : (2 : ℝ) ^ num.log2 ≤ num := by exact_mod_cast Nat.log2_self_le hn.ne'
  have hdle : (2 : ℝ) ^ den.log2 ≤ den := by exact_mod_cast Nat.log2_self_le hd.ne'
  have hnlt : (num : ℝ) < 2 ^ (num.log2 + 1) := by exact_mod_cast Nat.lt_log2_self
  have hdlt : (den : ℝ) < 2 ^ (den.log2 + 1) := by exact_mod_cast Nat.lt_log2_self
  have hden : (0 : ℝ) < den := Nat.cast_pos.mpr hd
  constructor
  · have hsum : (2 : ℝ) ^ num.log2 = 2 ^ (den.log2 + 1) * (2 : ℝ) ^ (e - 1) := by
      rw [← zpow_natCast, two_zpow_eq_mul (b := e - 1) (den.log2 + 1) (by push_cast; omega)]
    rw [le_div_iff₀' hden]
    calc den * (2 : ℝ) ^ (e - 1) ≤ 2 ^ (den.log2 + 1) * (2 : ℝ) ^ (e - 1) := by gcongr
      _ = 2 ^ num.log2 := hsum.symm
      _ ≤ num := hnle
  · have hsum : (2 : ℝ) ^ (num.log2 + 1) = 2 ^ den.log2 * (2 : ℝ) ^ (e + 1) := by
      rw [← zpow_natCast, two_zpow_eq_mul (b := e + 1) den.log2 (by push_cast; omega)]
    rw [div_lt_iff₀' hden]
    calc (num : ℝ) < 2 ^ (num.log2 + 1) := hnlt
      _ = 2 ^ den.log2 * (2 : ℝ) ^ (e + 1) := hsum
      _ ≤ den * (2 : ℝ) ^ (e + 1) := by gcongr

theorem floorLog2Ratio_eq_log {num den : Nat} (hn : 0 < num) (hd : 0 < den) : floorLog2Ratio num den = Int.log 2 ((num : ℝ) / den) := by
  obtain ⟨hge, hlt⟩ := ratio_bounds hn hd rfl
  have hcmp (e : ℤ) : (scaled num den e).2 ≤ (scaled num den e).1 ↔ (2 : ℝ) ^ e ≤ num / den := by
    have hpos : (0 : ℝ) < (scaled num den e).2 := Nat.cast_pos.mpr (scaled_pos hn hd e).2
    rw [← Nat.cast_le (α := ℝ), ← one_le_div hpos, scaled_div, one_le_div (zpow_pos two_pos e)]
  rw [floorLog2Ratio]
  simp only [hcmp]
  split
  next h => exact (log_eq_of_zpow_le_of_lt h hlt).symm
  next h => exact (log_eq_of_zpow_le_of_lt hge (by rw [sub_add_cancel]; exact not_le.mp h)).symm

/-- The exponent of a square root is half the exponent, rounded down. -/
theorem log_sqrt {x : ℝ} (hx : 0 < x) : Int.log 2 (Real.sqrt x) = Int.log 2 x / 2 := by
  have hsq (e : ℤ) : ((2 : ℝ) ^ e) ^ 2 = (2 : ℝ) ^ (e * 2) := by rw [zpow_mul, zpow_ofNat]
  have hle : (2 : ℝ) ^ Int.log 2 x ≤ x := by exact_mod_cast Int.zpow_log_le_self one_lt_two hx
  have hlt : x < (2 : ℝ) ^ (Int.log 2 x + 1) := by exact_mod_cast Int.lt_zpow_succ_log_self one_lt_two x
  apply log_eq_of_zpow_le_of_lt
  · refine Real.le_sqrt_of_sq_le ?_
    rw [hsq]
    exact (zpow_le_zpow_right₀ one_le_two (by omega)).trans hle
  · rw [Real.sqrt_lt' (zpow_pos two_pos _), hsq]
    exact hlt.trans_le (zpow_le_zpow_right₀ one_le_two (by omega))

/-- The exponent e = floor(log2 m) (41_ieee_numerics.md R106, R118). -/
theorem Magnitude.Pos.floorLog2_eq_log {m : Magnitude} (h : m.Pos) : m.floorLog2 = Int.log 2 m.val := by
  cases m with
  | ratio num den =>
    obtain ⟨hn, hd⟩ := h
    exact floorLog2Ratio_eq_log hn hd
  | root num den =>
    obtain ⟨hn, hd⟩ := h
    rw [Magnitude.floorLog2, floorLog2Ratio_eq_log hn hd, Magnitude.val,
      log_sqrt (div_pos (Nat.cast_pos.mpr hn) (Nat.cast_pos.mpr hd))]

/-! ## The split -/

/-- The comparisons with 0 and 1/2 that tailOf and rootTail make tell the place of r. -/
theorem Tail.places_ite {r : ℝ} {isZero isLow isHalf : Prop} [Decidable isZero] [Decidable isLow] [Decidable isHalf] (h0 : 0 ≤ r)
    (h1 : r < 1) (hzero : isZero ↔ r = 0) (hlow : isLow ↔ r < 1 / 2) (hhalf : isHalf ↔ r = 1 / 2) :
    Tail.Places (if isZero then .zero else if isLow then .low else if isHalf then .half else .high) r := by
  simp only [hzero, hlow, hhalf]
  split_ifs with hz hl hh
  · exact hz
  · exact ⟨lt_of_le_of_ne h0 (Ne.symm hz), hl⟩
  · exact hh
  · exact ⟨lt_of_le_of_ne (not_lt.mp hl) (Ne.symm hh), h1⟩

theorem isSplit_ratio {num den : Nat} (hd : 0 < den) : IsSplit (num / den, tailOf num den) ((num : ℝ) / den) := by
  have hden : (0 : ℝ) < den := Nat.cast_pos.mpr hd
  have hrem : (num : ℝ) / den - (num / den : ℕ) = (num % den : ℕ) / den := by
    rw [sub_eq_iff_eq_add, eq_comm, div_add' _ _ _ hden.ne', mul_comm]
    congr 1
    exact_mod_cast Nat.mod_add_div num den
  have hlt : ((num % den : ℕ) : ℝ) < den := Nat.cast_lt.mpr (Nat.mod_lt num hd)
  unfold IsSplit tailOf
  rw [hrem]
  apply Tail.places_ite
  · positivity
  · exact (div_lt_one hden).mpr hlt
  · rw [div_eq_zero_iff, or_iff_left hden.ne', Nat.cast_eq_zero]
  · rw [div_lt_div_iff₀ hden two_pos, one_mul, mul_comm]
    exact_mod_cast Iff.rfl
  · rw [div_eq_div_iff hden.ne' two_ne_zero, one_mul, mul_comm]
    exact_mod_cast Iff.rfl

theorem sqrt_div_lt_half_iff (num : Nat) {den : Nat} (hd : 0 < den) (k : Nat) :
    Real.sqrt ((num : ℝ) / den) < k / 2 ↔ 4 * num < den * (k * k) := by
  have hden : (0 : ℝ) < den := Nat.cast_pos.mpr hd
  rw [Real.sqrt_lt (by positivity) (by positivity), div_lt_iff₀ hden, ← Nat.cast_lt (α := ℝ)]
  push_cast
  constructor <;> intro h <;> linarith

theorem sqrt_div_eq_half_iff (num : Nat) {den : Nat} (hd : 0 < den) (k : Nat) :
    Real.sqrt ((num : ℝ) / den) = k / 2 ↔ 4 * num = den * (k * k) := by
  have hden : (0 : ℝ) < den := Nat.cast_pos.mpr hd
  rw [Real.sqrt_eq_iff_mul_self_eq (by positivity) (by positivity), div_eq_iff hden.ne', ← Nat.cast_inj (R := ℝ)]
  push_cast
  constructor <;> intro h <;> linarith

theorem rootTail_places {num den f : Nat} (hd : 0 < den) (hle : den * (f * f) ≤ num) (hlt : num < den * ((f + 1) * (f + 1))) :
    (rootTail num den f).Places (Real.sqrt ((num : ℝ) / den) - f) := by
  have hfloor := sqrt_div_lt_half_iff num hd (2 * f)
  have hexact := sqrt_div_eq_half_iff num hd (2 * f)
  have hlow := sqrt_div_lt_half_iff num hd (2 * f + 1)
  have hhalf := sqrt_div_eq_half_iff num hd (2 * f + 1)
  have hnext := sqrt_div_lt_half_iff num hd (2 * (f + 1))
  push_cast at hfloor hexact hlow hhalf hnext
  rw [rootTail]
  apply Tail.places_ite
  · have := (not_congr hfloor).mpr (by linarith)
    linarith
  · have := hnext.mpr (by linarith)
    linarith
  · rw [sub_eq_zero, ← mul_div_cancel_left₀ (f : ℝ) two_ne_zero, hexact]
    constructor <;> intro h <;> linarith
  · rw [← hlow]; constructor <;> intro h <;> linarith
  · rw [← hhalf]; constructor <;> intro h <;> linarith

theorem isSplit_root {num den : Nat} (hd : 0 < den) :
    IsSplit (isqrt (num / den), rootTail num den (isqrt (num / den))) (Real.sqrt ((num : ℝ) / den)) := by
  obtain ⟨hle, hlt⟩ := integerSquareRootIsTheFloor (num / den)
  rw [Nat.le_div_iff_mul_le hd, mul_comm] at hle
  rw [Nat.div_lt_iff_lt_mul hd, mul_comm] at hlt
  exact rootTail_places hd hle hlt

/-- split(m, q) is the floor of m / 2^q and the place of its remainder (41_ieee_numerics.md R106, R118). -/
theorem Magnitude.Pos.isSplit_split {m : Magnitude} (h : m.Pos) (q : ℤ) : IsSplit (m.split q) (m.val / (2 : ℝ) ^ q) := by
  cases m with
  | ratio num den =>
    obtain ⟨hn, hd⟩ := h
    rw [Magnitude.val, ← scaled_div]
    exact isSplit_ratio (scaled_pos hn hd q).2
  | root num den =>
    obtain ⟨hn, hd⟩ := h
    have hsqrt : Real.sqrt ((num : ℝ) / den) / (2 : ℝ) ^ q = Real.sqrt ((num : ℝ) / den / (2 : ℝ) ^ (2 * q)) := by
      rw [Real.sqrt_div' _ (zpow_pos two_pos _).le, mul_comm, zpow_mul, zpow_ofNat, Real.sqrt_sq (zpow_pos two_pos q).le]
    rw [Magnitude.val, hsqrt, ← scaled_div]
    exact isSplit_root (scaled_pos hn hd _).2

/-! ## Rounding (41_ieee_numerics.md R104, R106 to R109) -/

theorem minsub_pos (fmt : Fmt) : (0 : ℝ) < (2 : ℝ) ^ (emin fmt - fracBits fmt) := zpow_pos two_pos _

/-- The binade of a whole number of units 2^j. -/
theorem log_mul_two_zpow {k : Nat} (hk : k ≠ 0) (j : ℤ) : Int.log 2 ((k : ℝ) * (2 : ℝ) ^ j) = k.log2 + j := by
  apply log_eq_of_zpow_le_of_lt
  · rw [two_zpow_eq_mul k.log2 rfl]
    gcongr
    exact_mod_cast Nat.log2_self_le hk
  · rw [two_zpow_eq_mul (a := k.log2 + j + 1) (b := j) (k.log2 + 1) (by push_cast; ring)]
    gcongr
    exact_mod_cast Nat.lt_log2_self

/-- Packing k MINSUB is packing the real number. -/
theorem pack_eq_reference (fmt : Fmt) (s : Bool) (k : Nat) :
    pack fmt s k = Reference.pack fmt s (k * (2 : ℝ) ^ (emin fmt - fracBits fmt)) := by
  have hmin : (k : ℝ) * (2 : ℝ) ^ (emin fmt - fracBits fmt) < (2 : ℝ) ^ emin fmt ↔ k < 2 ^ fracBits fmt := by
    rw [two_zpow_eq_mul (a := emin fmt) (fracBits fmt) (add_sub_cancel ..).symm, mul_lt_mul_iff_left₀ (minsub_pos fmt)]
    exact_mod_cast Iff.rfl
  rw [Reference.pack, pack]
  simp only [hmin]
  split
  next => rw [mul_div_cancel_right₀ _ (minsub_pos fmt).ne', Nat.floor_natCast]
  next hk =>
    have hk0 : k ≠ 0 := by rintro rfl; exact hk (Nat.two_pow_pos _)
    have hF : fracBits fmt ≤ k.log2 := (Nat.le_log2 hk0).mpr (not_lt.mp hk)
    have hexp : ((k.log2 : ℤ) + (emin fmt - fracBits fmt) + bias fmt).toNat = k.log2 - fracBits fmt + 1 := by
      rw [emin]; omega
    have hfrac : (k : ℝ) * (2 : ℝ) ^ (emin fmt - fracBits fmt) / (2 : ℝ) ^ ((k.log2 : ℤ) + (emin fmt - fracBits fmt) - fracBits fmt)
        = k / (2 ^ (k.log2 - fracBits fmt) : ℕ) := by
      rw [two_zpow_eq_mul (a := k.log2 + (emin fmt - fracBits fmt) - fracBits fmt) (b := emin fmt - fracBits fmt)
        (k.log2 - fracBits fmt) (by omega), mul_div_mul_right _ _ (minsub_pos fmt).ne', Nat.cast_pow, Nat.cast_ofNat]
    rw [log_mul_two_zpow hk0, hexp, hfrac, Nat.floor_div_eq_div]

/-- The rounded magnitude of R106 is counted in MINSUB. -/
theorem Magnitude.Pos.rounded_eq {m : Magnitude} (h : m.Pos) (fmt : Fmt) (s : Bool) (dir : Directive) :
    Reference.rounded fmt s m.val dir = (roundedUnits fmt s m dir).1 * (2 : ℝ) ^ (emin fmt - fracBits fmt) := by
  have hq : max (Int.log 2 m.val) (emin fmt) - fracBits fmt = quantumExp fmt m := by rw [quantumExp, h.floorLog2_eq_log]
  have hge : emin fmt - fracBits fmt ≤ quantumExp fmt m := by rw [quantumExp]; omega
  rw [Reference.rounded, hq, (h.isSplit_split _).rndInt_eq, roundedUnits,
    two_zpow_eq_mul (b := emin fmt - fracBits fmt) (quantumExp fmt m - (emin fmt - fracBits fmt)).toNat (by omega)]
  push_cast
  ring

/-- A remainder is left exactly when the rounded magnitude differs. -/
theorem Magnitude.Pos.roundedUnits_inexact {m : Magnitude} (h : m.Pos) (fmt : Fmt) (s : Bool) (dir : Directive) :
    (roundedUnits fmt s m dir).2 = decide (Reference.rounded fmt s m.val dir ≠ m.val) := by
  have hq : max (Int.log 2 m.val) (emin fmt) - fracBits fmt = quantumExp fmt m := by rw [quantumExp, h.floorLog2_eq_log]
  have hsplit := h.isSplit_split (quantumExp fmt m)
  rw [Reference.rounded, hq, hsplit.rndInt_eq, Int.cast_natCast, roundedUnits]
  apply decide_eq_decide.mpr
  rw [not_iff_not, ← hsplit.rndInt_eq_self_iff dir s, eq_div_iff (zpow_pos two_pos _).ne']

/-- Rounded with F + 1 bits, a magnitude is no less than its binade. -/
theorem Magnitude.Pos.two_pow_fracBits_le_rndInt {m : Magnitude} (h : m.Pos) (fmt : Fmt) (s : Bool) (dir : Directive) :
    2 ^ fracBits fmt ≤ rndInt (m.split (m.floorLog2 - fracBits fmt)).1 (m.split (m.floorLog2 - fracBits fmt)).2 dir s := by
  have hbinade : (2 : ℝ) ^ m.floorLog2 ≤ m.val := by
    rw [h.floorLog2_eq_log]
    exact_mod_cast Int.zpow_log_le_self one_lt_two h.val_pos
  have hscaled : (2 : ℝ) ^ fracBits fmt ≤ m.val / (2 : ℝ) ^ (m.floorLog2 - fracBits fmt) := by
    rwa [le_div_iff₀ (zpow_pos two_pos _), ← two_zpow_eq_mul (fracBits fmt) (add_sub_cancel ..).symm]
  have hfloor : ((2 ^ fracBits fmt : ℕ) : ℤ) ≤ (m.split (m.floorLog2 - fracBits fmt)).1 := by
    rw [← (h.isSplit_split _).floor, Int.le_floor]
    exact_mod_cast hscaled
  exact (Int.ofNat_le.mp hfloor).trans (le_rndInt ..)

theorem Magnitude.Pos.tiny_eq {m : Magnitude} (h : m.Pos) (t : Tininess) (fmt : Fmt) (s : Bool) (dir : Directive) :
    tiny t fmt s m dir = Reference.tiny t fmt s m.val dir := by
  have hlog := h.floorLog2_eq_log
  cases t with
  | beforeRounding =>
    apply decide_eq_decide.mpr
    rw [hlog]
    exact_mod_cast (Int.lt_zpow_iff_log_lt one_lt_two h.val_pos).symm
  | afterRounding =>
    have hF := h.two_pow_fracBits_le_rndInt fmt s dir
    simp only [tiny, Reference.tiny, ← hlog, (h.isSplit_split _).rndInt_eq, Int.cast_natCast, ← Bool.decide_and]
    apply decide_eq_decide.mpr
    generalize rndInt _ _ dir s = k at hF ⊢
    have hunit : (0 : ℝ) < (2 : ℝ) ^ (m.floorLog2 - fracBits fmt) := zpow_pos two_pos _
    by_cases he : m.floorLog2 < emin fmt
    · rw [two_zpow_eq_mul (a := emin fmt) (b := m.floorLog2 - fracBits fmt) (emin fmt - m.floorLog2 + fracBits fmt).toNat (by omega),
        mul_lt_mul_iff_left₀ hunit, and_iff_right he]
      exact_mod_cast Iff.rfl
    · have hge : (2 : ℝ) ^ emin fmt ≤ k * (2 : ℝ) ^ (m.floorLog2 - fracBits fmt) :=
        calc (2 : ℝ) ^ emin fmt ≤ (2 : ℝ) ^ m.floorLog2 := zpow_le_zpow_right₀ one_le_two (not_lt.mp he)
          _ = 2 ^ fracBits fmt * (2 : ℝ) ^ (m.floorLog2 - fracBits fmt) := two_zpow_eq_mul _ (add_sub_cancel ..).symm
          _ ≤ k * (2 : ℝ) ^ (m.floorLog2 - fracBits fmt) := by gcongr; exact_mod_cast hF
      exact iff_of_false (fun hlt => he hlt.1) hge.not_gt

/-- The rounding over whole numbers is the rounding of the real number. -/
theorem Magnitude.Pos.round_eq {m : Magnitude} (h : m.Pos) (t : Tininess) (fmt : Fmt) (s : Bool) (dir : Directive) :
    round t fmt s m dir = Reference.roundMagnitude t fmt s m.val dir := by
  have hmax : Reference.maxf fmt < Reference.rounded fmt s m.val dir ↔ maxUnits fmt < (roundedUnits fmt s m dir).1 := by
    rw [maxf_eq_maxUnits, h.rounded_eq, mul_lt_mul_iff_left₀ (minsub_pos fmt), Nat.cast_lt]
  have hpack : pack fmt s (roundedUnits fmt s m dir).1 = Reference.pack fmt s (Reference.rounded fmt s m.val dir) := by
    rw [pack_eq_reference, h.rounded_eq]
  simp only [round, Reference.roundMagnitude, hmax, hpack, h.tiny_eq, h.roundedUnits_inexact]

/-- Settles O37: a quotient and a root are positive magnitudes. -/
theorem roundingMatchesTheReals : Obligations.RoundingMatchesTheReals := by
  intro t fmt s dir num den hn hd
  have hratio : (Magnitude.ratio num den).Pos := ⟨hn, hd⟩
  have hroot : (Magnitude.root num den).Pos := ⟨hn, hd⟩
  exact ⟨hratio.round_eq t fmt s dir, hroot.round_eq t fmt s dir⟩

end Sys2Proof.Machine

/-! # The fused multiply-add family: the flip, the exact multiply-add, and the hand-back of a floating-point result

What a floating-point primitive hands back is one pattern of its result and the state (`handedBack`), and `DeliversFp` follows for
whatever instruction ends in `finishFp`. The machine's multiply-add is the spec's over the reals, because its exact sum is the real one
counted in MINSUB² (`fusedSum_div`); a variant is FMADD's body on flipped operands (`exec_fusedInstr`, `fusedResult`). -/

namespace Sys2Proof.Machine

/-! ## The flip (42_fma.md R130) -/

/-- The mask has no bit in the exponent or the fraction. -/
theorem signMask_fields (fmt : Fmt) :
    (signMask fmt).extractLsb' (fracBits fmt) (expBits fmt) = 0#(expBits fmt)
      ∧ (signMask fmt).extractLsb' 0 (fracBits fmt) = 0#(fracBits fmt) := by
  cases fmt <;> decide

theorem expOf_flip (fmt : Fmt) (v : Pattern fmt) : expOf fmt (flip fmt v) = expOf fmt v := by
  rw [expOf_eq_extractLsb', flip, BitVec.extractLsb'_xor, (signMask_fields fmt).1, BitVec.xor_zero, ← expOf_eq_extractLsb']

theorem fracOf_flip (fmt : Fmt) (v : Pattern fmt) : fracOf fmt (flip fmt v) = fracOf fmt v := by
  rw [fracOf_eq_extractLsb', flip, BitVec.extractLsb'_xor, (signMask_fields fmt).2, BitVec.xor_zero, ← fracOf_eq_extractLsb']

theorem isNaN_flip (fmt : Fmt) (v : Pattern fmt) : isNaN fmt (flip fmt v) = isNaN fmt v := by
  rw [isNaN, expOf_flip, fracOf_flip, isNaN]

theorem quietBit_flip (fmt : Fmt) (v : Pattern fmt) : quietBit fmt (flip fmt v) = quietBit fmt v := by
  rw [quietBit_eq, fracOf_flip, ← quietBit_eq]

theorem isSNaN_flip (c : Config) (fmt : Fmt) (v : Pattern fmt) : isSNaN c fmt (flip fmt v) = isSNaN c fmt v := by
  rw [isSNaN, isNaN_flip, quietBit_flip, isSNaN]

theorem isQNaN_flip (c : Config) (fmt : Fmt) (v : Pattern fmt) : isQNaN c fmt (flip fmt v) = isQNaN c fmt v := by
  rw [isQNaN, isNaN_flip, quietBit_flip, isQNaN]

/-- Settles O39: the kind of a NaN is told by its exponent and fraction, which the mask leaves alone. -/
theorem signFlipInvertsOnlyTheSign : Obligations.SignFlipInvertsOnlyTheSign :=
  ⟨fun _ => rfl, fun _ => rfl, fun c fmt v =>
    ⟨signOf_flip fmt v, expOf_flip fmt v, fracOf_flip fmt v, isSNaN_flip c fmt v, isQNaN_flip c fmt v⟩⟩

/-! ## The hand-back of a floating-point result (40_control_path.md R80, 41_ieee_numerics.md R112) -/

/-- The pattern handed back for a primitive's result. -/
def handedBack (fmt : Fmt) (r : FpResult fmt) (s : State) : Pattern fmt :=
  match r with
  | .number v => v
  | .nan => nanPattern fmt s

theorem handedBack_congr {s t : State} (hb : t.build = s.build) (hd : t.draws = s.draws) (fmt : Fmt) (r : FpResult fmt) :
    handedBack fmt r t = handedBack fmt r s := by
  cases r with
  | number v => rfl
  | nan => rw [handedBack, nanPattern, hb, hd]; rfl

theorem isQNaN_nanPattern (fmt : Fmt) (s : State) : isQNaN s.build fmt (nanPattern fmt s) = true := by
  rw [nanPattern]
  cases s.build.nanMode with
  | canonical => exact isQNaN_canonicalNaN s.build fmt
  | propagate => exact (naNDrawsAreExactlyTheQuietNaNs s.build fmt).1 _

theorem allowed_handedBack (fmt : Fmt) (r : FpResult fmt) (s : State) : Reference.Allowed s.build r (handedBack fmt r s) := by
  cases r with
  | number v => rfl
  | nan =>
    refine ⟨isQNaN_nanPattern fmt s, fun h => ?_⟩
    rw [handedBack, nanPattern, h]

theorem readF_completeFp_same (fmt : Fmt) (rd : Reg) (v : Pattern fmt) (s : State) :
    readF rd (completeFp fmt rd v s) = toFpWord s.build.f32Box fmt v := readF_writeF_same rd _ s

section FinishFp
variable (fmt : Fmt) (rd : Reg) (p : Raised (FpResult fmt)) (s : State)

/-- Handing back a result is completing with its pattern; a NaN also counts a draw. -/
theorem finishFp_eq :
    finishFp fmt rd p s = completeFp fmt rd (handedBack fmt p.result s)
      (if p.result = .nan then countDraw (accumulate p.raised s) else accumulate p.raised s) := by
  cases h : p.result with
  | number v =>
    rw [if_neg (by simp)]
    exact finishFp_number h s
  | nan =>
    rw [if_pos rfl]
    exact finishFp_nan h s

theorem finishFp_outcomes : (finishFp fmt rd p s).outcomes = fpOutcome fmt (handedBack fmt p.result s) :: s.outcomes := by
  rw [finishFp_eq]
  split <;> simp

theorem finishFp_fflags : (finishFp fmt rd p s).fflags = s.fflags ||| p.raised := by
  obtain ⟨_, -, -, -, hflags, -⟩ := finishFp_spec fmt rd p s
  exact hflags

theorem readF_finishFp_same : readF rd (finishFp fmt rd p s) = toFpWord s.build.f32Box fmt (handedBack fmt p.result s) := by
  rw [finishFp_eq, readF_completeFp_same]
  split <;> simp

theorem readF_finishFp_of_ne {r : Reg} (h : r ≠ rd) : readF r (finishFp fmt rd p s) = readF r s := by
  obtain ⟨v, -, hf, -⟩ := finishFp_spec fmt rd p s
  rw [← readF_writeF_of_ne h (toFpWord s.build.f32Box fmt v) s]
  exact readF_congr hf r

theorem finishFp_draws (h : p.result ≠ .nan ∨ s.build.nanMode = .canonical) : (finishFp fmt rd p s).draws = s.draws := by
  rw [finishFp_eq]
  split
  next hnan =>
    have hc : (accumulate p.raised s).build.nanMode = .canonical := h.resolve_left (not_not.mpr hnan)
    rw [completeFp_draws, countDraw_canonical hc, accumulate_draws]
  next => rw [completeFp_draws, accumulate_draws]

end FinishFp

/-- The same result handed back in two states: the NaN drawn and the flags agree where the build, the draws and the flags do. -/
theorem finishFp_agree {s s' : State} (hbuild : s'.build = s.build) (hdraws : s'.draws = s.draws) (hflags : s'.fflags = s.fflags)
    (fmt : Fmt) (rd : Reg) (p : Raised (FpResult fmt)) :
    ∃ o, (finishFp fmt rd p s).outcomes = o :: s.outcomes ∧ (finishFp fmt rd p s').outcomes = o :: s'.outcomes
      ∧ (finishFp fmt rd p s').fflags = (finishFp fmt rd p s).fflags :=
  ⟨_, finishFp_outcomes fmt rd p s, by rw [finishFp_outcomes, handedBack_congr hbuild hdraws],
    by rw [finishFp_fflags, finishFp_fflags, hflags]⟩

/-- An instruction that ends in handing back `p` under the directive `dir` delivers `p`. -/
theorem deliversFp_of_exec {fmt : Fmt} {i : Instr} {rd : Reg} {p : Raised (FpResult fmt)} {dir : Directive} {s : State}
    (h : exec i s = .next (finishFp fmt rd p (setLibRm dir s))) : Reference.DeliversFp fmt i rd p dir s := by
  obtain ⟨-, -, -, hx, hflags, hlibFlags, hlibRm, -⟩ := finishFp_spec fmt rd p (setLibRm dir s)
  exact ⟨_, handedBack fmt p.result (setLibRm dir s), h, allowed_handedBack fmt p.result (setLibRm dir s), finishFp_outcomes fmt rd p _,
    readF_finishFp_same fmt rd p _, fun _ hr => readF_finishFp_of_ne fmt rd p _ hr, readX_congr hx, hflags, hlibFlags, hlibRm,
    (exec_effect h).keepsControl, finishFp_draws fmt rd p (setLibRm dir s)⟩

/-! ## The machine's result forms are the spec's (41_ieee_numerics.md R106, R110, R113, R115) -/

theorem nanResult_eq (fmt : Fmt) (invalid : Bool) : nanResult fmt invalid = Reference.nan fmt invalid := rfl

theorem exactResult_eq {fmt : Fmt} (v : Pattern fmt) : exactResult v = Reference.exact v := rfl

theorem zero_zeroSumSign (fmt : Fmt) (sx sy : Bool) (dir : Directive) :
    zero fmt (zeroSumSign sx sy dir) = Reference.zeroSum fmt sx sy dir := by
  cases sx <;> cases sy <;> cases dir <;> rfl

/-- Rounding a magnitude with a sign is rounding the real number of that magnitude and sign. -/
theorem Magnitude.Pos.roundedResult_eq {m : Magnitude} (h : m.Pos) {s : Bool} {x : ℝ} (hs : s = true ↔ x < 0) (hm : m.val = |x|)
    (cfg : Config) (fmt : Fmt) (dir : Directive) : roundedResult cfg fmt s m dir = Reference.roundedTo cfg.tininess fmt x dir := by
  have hsign : s = decide (x < 0) := by rw [Bool.eq_iff_iff, hs, decide_eq_true_iff]
  rw [roundedResult, h.round_eq, hsign, hm]
  rfl

/-- The same for a nonzero whole number over a positive one. -/
theorem roundedResult_ratio {k : Int} (hk : k ≠ 0) {den : Nat} (hd : 0 < den) (cfg : Config) (fmt : Fmt) (dir : Directive) :
    roundedResult cfg fmt (decide (k < 0)) (.ratio k.natAbs den) dir = Reference.roundedTo cfg.tininess fmt ((k : ℝ) / den) dir := by
  have hden : (0 : ℝ) < den := Nat.cast_pos.mpr hd
  have hpos : (Magnitude.ratio k.natAbs den).Pos := ⟨Int.natAbs_pos.mpr hk, hd⟩
  refine hpos.roundedResult_eq ?_ ?_ cfg fmt dir
  · rw [decide_eq_true_iff, div_lt_iff₀ hden, zero_mul, Int.cast_lt_zero]
  · rw [Magnitude.val, abs_div, Nat.cast_natAbs, Int.cast_abs, Nat.abs_cast]

/-! ## The exact multiply-add (42_fma.md R131) -/

/-- The real value of a pattern is its signed units of MINSUB = 1 / 2^K. -/
theorem value_eq_signedUnits (fmt : Fmt) (v : Pattern fmt) : Reference.value fmt v = signedUnits fmt v / 2 ^ minsubExp fmt := by
  have hminsub : (2 : ℝ) ^ (emin fmt - fracBits fmt) = (2 ^ minsubExp fmt)⁻¹ := by
    rw [← zpow_natCast, ← zpow_neg, minsubExp_eq, neg_neg]
  rw [value_eq_units, hminsub, ← div_eq_mul_inv, signedUnits]
  cases signOf fmt v <;> simp [Reference.signFactor]

/-- The exact sum, counted in MINSUB². -/
theorem fusedSum_div (fmt : Fmt) (a b c : Pattern fmt) :
    Reference.value fmt a * Reference.value fmt b + Reference.value fmt c
      = (fusedSum fmt a b c : ℝ) / (2 ^ (2 * minsubExp fmt) : ℕ) := by
  rw [value_eq_signedUnits, value_eq_signedUnits, value_eq_signedUnits, fusedSum, two_mul, pow_add]
  push_cast
  field_simp

/-- The machine's multiply-add is the spec's. -/
theorem fma_eq_reference (cfg : Config) (fmt : Fmt) (a b c : Pattern fmt) (dir : Directive) :
    fma cfg fmt a b c dir = Reference.fma cfg fmt a b c dir := by
  have hden : 0 < 2 ^ (2 * minsubExp fmt) := Nat.two_pow_pos _
  have hzero : (fusedSum fmt a b c : ℝ) / (2 ^ (2 * minsubExp fmt) : ℕ) = 0 ↔ fusedSum fmt a b c = 0 := by
    rw [div_eq_zero_iff, or_iff_left (Nat.cast_ne_zero.mpr hden.ne'), Int.cast_eq_zero]
  simp only [fma, Reference.fma, fusedSum_div, hzero, nanResult_eq, exactResult_eq, zero_zeroSumSign]
  by_cases hx : fusedSum fmt a b c = 0
  · simp only [if_pos hx]
    rfl
  · rw [roundedResult_ratio hx hden]
    rfl

/-! ## The four instructions (42_fma.md R132 to R140) -/

/-- The four variants of either format are one body with or without the flips. -/
theorem exec_fusedInstr (fmt : Fmt) (negProduct negAddend : Bool) (rd rs1 rs2 rs3 : Reg) (rm : RoundingCode) (s : State) :
    exec (Reference.fusedInstr fmt negProduct negAddend rd rs1 rs2 rs3 rm) s
      = roundingOp rm (fusedBody fmt negProduct negAddend rd rs1 rs2 rs3) s := by
  cases fmt <;> cases negProduct <;> cases negAddend <;> rfl

/-- The multiply-add of a variant on the operands it reads. -/
def fusedResult (fmt : Fmt) (negProduct negAddend : Bool) (rs1 rs2 rs3 : Reg) (dir : Directive) (s : State) : Raised (FpResult fmt) :=
  fma s.build fmt (if negProduct then flip fmt (readPort fmt rs1 s) else readPort fmt rs1 s) (readPort fmt rs2 s)
    (if negAddend then flip fmt (readPort fmt rs3 s) else readPort fmt rs3 s) dir

/-- Past the gate and the Resolver a variant hands back its multiply-add of the operands it was given. -/
theorem exec_fusedInstr_runs {s : State} {rm : RoundingCode} {dir : Directive} (hg : gateFails true s = false)
    (hr : resolve s rm = some dir) (fmt : Fmt) (negProduct negAddend : Bool) (rd rs1 rs2 rs3 : Reg) :
    exec (Reference.fusedInstr fmt negProduct negAddend rd rs1 rs2 rs3 rm) s
      = .next (finishFp fmt rd (fusedResult fmt negProduct negAddend rs1 rs2 rs3 dir s) (setLibRm dir s)) := by
  rw [exec_fusedInstr, roundingOp_runs hg hr]
  rfl

/-- Settles O41: past the gate and the Resolver the machine's multiply-add is handed back, which is the spec's. -/
theorem fusedMultiplyAddDeliversTheSpecResult : Obligations.FusedMultiplyAddDeliversTheSpecResult := by
  intro fmt negProduct negAddend rd rs1 rs2 rs3 rm dir s hgate hresolve a c
  have hexec := exec_fusedInstr_runs ((gateFails_eq_false_iff true s).mpr hgate) hresolve fmt negProduct negAddend rd rs1 rs2 rs3
  rw [fusedResult, fma_eq_reference] at hexec
  exact deliversFp_of_exec hexec

/-- Settles O56: the gate and the Resolver decide alike in both states, and FMADD has the operands of the variant; the counterexample
is evaluated. -/
theorem fusedVariantsAreFmaddOnFlippedOperands : Obligations.FusedVariantsAreFmaddOnFlippedOperands := by
  refine ⟨?_, by decide +kernel, by decide +kernel, by decide +kernel⟩
  intro fmt negProduct negAddend rd rs1 rs2 rs3 rm s s' t hexec hbuild hfrm hen hflags hdraws ha hb hc
  have hgate : gateFails true s' = gateFails true s := by rw [gateFails, hbuild, hen, gateFails]
  have hresolve : resolve s' rm = resolve s rm := by rw [resolve, hfrm, resolve]
  have hresult (dir : Directive) :
      fusedResult fmt false false rs1 rs2 rs3 dir s' = fusedResult fmt negProduct negAddend rs1 rs2 rs3 dir s := by
    rw [fusedResult, if_neg Bool.false_ne_true, if_neg Bool.false_ne_true, ha, hb, hc, hbuild, fusedResult]
  rw [exec_fusedInstr] at hexec
  obtain ⟨hg, ht⟩ | ⟨-, hr, ht⟩ | ⟨dir, hg, hr, ht⟩ := roundingOp_cases hexec <;> cases ht
  · exact ⟨takeTrap s', _, by rw [exec_fusedInstr, roundingOp_gate (hgate.trans hg)], rfl, rfl, hflags⟩
  · exact ⟨takeTrap s', _, by rw [exec_fusedInstr, roundingOp_unresolved (hresolve.trans hr)], rfl, rfl, hflags⟩
  · have hrun := exec_fusedInstr_runs (hgate.trans hg) (hresolve.trans hr) fmt false false rd rs1 rs2 rs3
    rw [hresult] at hrun
    obtain ⟨o, hout, hout', hfl⟩ := finishFp_agree (s := setLibRm dir s) (s' := setLibRm dir s') hbuild hdraws hflags fmt rd
      (fusedResult fmt negProduct negAddend rs1 rs2 rs3 dir s)
    exact ⟨_, o, hrun, hout, hout', hfl⟩

end Sys2Proof.Machine

/-! # The arithmetic family: addition, multiplication, division and square root

A primitive of 43_arith.md is the spec's over the reals: the special operands are told by the same tests, and what is left to round is
the sign and the exact magnitude of the real result (`add_eq_reference` to `sqrt_eq_reference`). The flags of the square root are those
of a rounding whose binade is normal and below the last (`Magnitude.Pos.round_raised_of_normal`). -/

namespace Sys2Proof.Machine

/-! ## A rounded sign and magnitude (41_ieee_numerics.md R106) -/

theorem signFactor_mul (s t : Bool) : Reference.signFactor s * Reference.signFactor t = Reference.signFactor (s ^^ t) := by
  cases s <;> cases t <;> simp [Reference.signFactor]

theorem signFactor_div (s t : Bool) : Reference.signFactor s / Reference.signFactor t = Reference.signFactor (s ^^ t) := by
  cases s <;> cases t <;> simp [Reference.signFactor]

/-- Rounding a sign and a magnitude is rounding the real number of that sign and magnitude. -/
theorem Magnitude.Pos.roundedResult_signFactor {m : Magnitude} (h : m.Pos) {s : Bool} {x : ℝ} (hx : x = Reference.signFactor s * m.val)
    (cfg : Config) (fmt : Fmt) (dir : Directive) : roundedResult cfg fmt s m dir = Reference.roundedTo cfg.tininess fmt x dir := by
  have hpos := h.val_pos
  subst hx
  apply h.roundedResult_eq
  · cases s <;> simp [Reference.signFactor, hpos, hpos.le]
  · cases s <;> simp [Reference.signFactor, abs_of_pos hpos]

/-! ## The primitives are the spec's (43_arith.md R141 to R144) -/

/-- The exact sum, counted in MINSUB. -/
theorem value_add_value (fmt : Fmt) (a b : Pattern fmt) :
    Reference.value fmt a + Reference.value fmt b = ((signedUnits fmt a + signedUnits fmt b : ℤ) : ℝ) / (2 ^ minsubExp fmt : ℕ) := by
  rw [value_eq_signedUnits, value_eq_signedUnits, ← add_div]
  push_cast
  rfl

theorem add_eq_reference (cfg : Config) (fmt : Fmt) (a b : Pattern fmt) (dir : Directive) :
    add cfg fmt a b dir = Reference.add cfg fmt a b dir := by
  have hden : 0 < 2 ^ minsubExp fmt := Nat.two_pow_pos _
  simp only [add, Reference.add, value_add_value, nanResult_eq, exactResult_eq, zero_zeroSumSign]
  generalize signedUnits fmt a + signedUnits fmt b = x
  have hzero : (x : ℝ) / (2 ^ minsubExp fmt : ℕ) = 0 ↔ x = 0 := by
    rw [div_eq_zero_iff, or_iff_left (Nat.cast_ne_zero.mpr hden.ne'), Int.cast_eq_zero]
  simp only [hzero]
  by_cases hx : x = 0
  · simp only [if_pos hx]
  · rw [roundedResult_ratio hx hden]

/-- Subtraction is addition of the flipped operand. -/
theorem sub_eq_reference (cfg : Config) (fmt : Fmt) (a b : Pattern fmt) (dir : Directive) :
    sub cfg fmt a b dir = Reference.add cfg fmt a (b ^^^ signMask fmt) dir :=
  add_eq_reference cfg fmt a (flip fmt b) dir

/-- The real value of a pattern by its sign and its units of MINSUB = 1 / 2^K. -/
theorem value_eq_signFactor_mul (fmt : Fmt) (v : Pattern fmt) :
    Reference.value fmt v = Reference.signFactor (signOf fmt v) * (units fmt v / (2 ^ minsubExp fmt : ℕ)) := by
  rw [value_eq_signedUnits, signedUnits]
  cases signOf fmt v <;> simp [Reference.signFactor, neg_div]

theorem value_eq_zero_iff (fmt : Fmt) (v : Pattern fmt) : Reference.value fmt v = 0 ↔ units fmt v = 0 := by
  rw [value_eq_signFactor_mul]
  cases signOf fmt v <;> simp [Reference.signFactor]

/-- The exact product, counted in MINSUB². -/
theorem value_mul_value (fmt : Fmt) (a b : Pattern fmt) :
    Reference.value fmt a * Reference.value fmt b = Reference.signFactor (signOf fmt a ^^ signOf fmt b)
      * (Magnitude.ratio (units fmt a * units fmt b) (2 ^ (2 * minsubExp fmt))).val := by
  rw [value_eq_signFactor_mul, value_eq_signFactor_mul, ← signFactor_mul, Magnitude.val, two_mul, pow_add]
  push_cast
  ring

/-- The exact quotient, in which MINSUB cancels. -/
theorem value_div_value (fmt : Fmt) (a b : Pattern fmt) :
    Reference.value fmt a / Reference.value fmt b = Reference.signFactor (signOf fmt a ^^ signOf fmt b)
      * (Magnitude.ratio (units fmt a) (units fmt b)).val := by
  have hden : ((2 ^ minsubExp fmt : ℕ) : ℝ) ≠ 0 := Nat.cast_ne_zero.mpr (Nat.two_pow_pos _).ne'
  rw [value_eq_signFactor_mul, value_eq_signFactor_mul, mul_div_mul_comm, signFactor_div, div_div_div_cancel_right₀ hden, Magnitude.val]

theorem units_pos {fmt : Fmt} {v : Pattern fmt} (h : ¬ isZero fmt v = true) : 0 < units fmt v :=
  Nat.pos_of_ne_zero (mt units_eq_zero_iff.mp h)

theorem mul_eq_reference (cfg : Config) (fmt : Fmt) (a b : Pattern fmt) (dir : Directive) :
    mul cfg fmt a b dir = Reference.mul cfg fmt a b dir := by
  have hden : 0 < 2 ^ (2 * minsubExp fmt) := Nat.two_pow_pos _
  have hzero : Reference.value fmt a * Reference.value fmt b = 0 ↔ units fmt a * units fmt b = 0 := by
    rw [mul_eq_zero, value_eq_zero_iff, value_eq_zero_iff, mul_eq_zero]
  simp only [mul, Reference.mul, hzero, nanResult_eq, exactResult_eq]
  by_cases hx : units fmt a * units fmt b = 0
  · simp only [if_pos hx]
    rfl
  · have hpos : (Magnitude.ratio (units fmt a * units fmt b) (2 ^ (2 * minsubExp fmt))).Pos := ⟨Nat.pos_of_ne_zero hx, hden⟩
    rw [hpos.roundedResult_signFactor (value_mul_value fmt a b)]
    rfl

theorem div_eq_reference (cfg : Config) (fmt : Fmt) (a b : Pattern fmt) (dir : Directive) :
    div cfg fmt a b dir = Reference.div cfg fmt a b dir := by
  simp only [div, Reference.div, nanResult_eq, exactResult_eq]
  by_cases ha : isZero fmt a = true
  · simp only [if_pos ha]
    rfl
  by_cases hb : isZero fmt b = true
  · simp only [if_pos hb]
    rfl
  have hpos : (Magnitude.ratio (units fmt a) (units fmt b)).Pos := ⟨units_pos ha, units_pos hb⟩
  rw [hpos.roundedResult_signFactor (value_div_value fmt a b)]
  rfl

theorem sqrt_eq_reference (cfg : Config) (fmt : Fmt) (a : Pattern fmt) (dir : Directive) :
    sqrt cfg fmt a dir = Reference.sqrt cfg fmt a dir := by
  simp only [sqrt, Reference.sqrt, nanResult_eq, exactResult_eq]
  by_cases hz : isZero fmt a = true
  · simp only [if_pos hz]
  by_cases hs : signOf fmt a = true
  · simp only [if_pos hs]
  have hpos : (Magnitude.root (units fmt a) (2 ^ minsubExp fmt)).Pos := ⟨units_pos hz, Nat.two_pow_pos _⟩
  have hroot : Real.sqrt (Reference.value fmt a)
      = Reference.signFactor false * (Magnitude.root (units fmt a) (2 ^ minsubExp fmt)).val := by
    rw [value_eq_signFactor_mul, eq_false_of_ne_true hs]
    simp [Reference.signFactor, Magnitude.val]
  rw [hpos.roundedResult_signFactor hroot]

/-! ## The instructions (43_arith.md R145 to R154) -/

section Instructions
variable (fmt : Fmt) (rd rs1 rs2 : Reg) (rm : RoundingCode) (s : State)

theorem exec_addInstr : exec (Reference.addInstr fmt rd rs1 rs2 rm) s = roundingOp rm (binaryBody fmt (add · fmt) rd rs1 rs2) s := by
  cases fmt <;> rfl

theorem exec_subInstr : exec (Reference.subInstr fmt rd rs1 rs2 rm) s = roundingOp rm (binaryBody fmt (sub · fmt) rd rs1 rs2) s := by
  cases fmt <;> rfl

theorem exec_mulInstr : exec (Reference.mulInstr fmt rd rs1 rs2 rm) s = roundingOp rm (binaryBody fmt (mul · fmt) rd rs1 rs2) s := by
  cases fmt <;> rfl

theorem exec_divInstr : exec (Reference.divInstr fmt rd rs1 rs2 rm) s = roundingOp rm (binaryBody fmt (div · fmt) rd rs1 rs2) s := by
  cases fmt <;> rfl

theorem exec_sqrtInstr : exec (Reference.sqrtInstr fmt rd rs1 rm) s = roundingOp rm (sqrtBody fmt rd rs1) s := by
  cases fmt <;> rfl

end Instructions

/-- Past the gate and the Resolver a two-operand instruction delivers its primitive on the operands it was given. -/
theorem deliversFp_of_binaryBody {fmt : Fmt} {i : Instr} {rd rs1 rs2 : Reg} {rm : RoundingCode} {dir : Directive} {s : State}
    {prim : Config → Pattern fmt → Pattern fmt → Directive → Raised (FpResult fmt)}
    (hi : exec i s = roundingOp rm (binaryBody fmt prim rd rs1 rs2) s) (hgate : GatePasses true s) (hresolve : resolve s rm = some dir) :
    Reference.DeliversFp fmt i rd (prim s.build (readPort fmt rs1 s) (readPort fmt rs2 s) dir) dir s := by
  apply deliversFp_of_exec
  rw [hi, roundingOp_runs ((gateFails_eq_false_iff true s).mpr hgate) hresolve]
  rfl

/-- Settles O42: both instructions deliver the machine's sum, which is the spec's. -/
theorem addAndSubtractDeliverTheSpecResult : Obligations.AddAndSubtractDeliverTheSpecResult := by
  intro fmt rd rs1 rs2 rm dir s hgate hresolve
  rw [← add_eq_reference, ← sub_eq_reference]
  exact ⟨deliversFp_of_binaryBody (exec_addInstr fmt rd rs1 rs2 rm s) hgate hresolve,
    deliversFp_of_binaryBody (exec_subInstr fmt rd rs1 rs2 rm s) hgate hresolve⟩

/-- Settles O43: the machine's product is the spec's. -/
theorem multiplyDeliversTheSpecResult : Obligations.MultiplyDeliversTheSpecResult := by
  intro fmt rd rs1 rs2 rm dir s hgate hresolve
  rw [← mul_eq_reference]
  exact deliversFp_of_binaryBody (exec_mulInstr fmt rd rs1 rs2 rm s) hgate hresolve

/-- Settles O44: the machine's quotient is the spec's, division by zero included. -/
theorem divideDeliversTheSpecResult : Obligations.DivideDeliversTheSpecResult := by
  intro fmt rd rs1 rs2 rm dir s hgate hresolve
  rw [← div_eq_reference]
  exact deliversFp_of_binaryBody (exec_divInstr fmt rd rs1 rs2 rm s) hgate hresolve

/-- Settles O45: the machine's square root is the spec's. -/
theorem squareRootDeliversTheSpecResult : Obligations.SquareRootDeliversTheSpecResult := by
  intro fmt rd rs1 rm dir s hgate hresolve
  rw [← sqrt_eq_reference]
  apply deliversFp_of_exec
  rw [exec_sqrtInstr, roundingOp_runs ((gateFails_eq_false_iff true s).mpr hgate) hresolve]
  rfl

/-! ## Roundings that raise at most NX (41_ieee_numerics.md R107 to R109) -/

theorem rndInt_le_succ (f : Nat) (t : Tail) (dir : Directive) (s : Bool) : rndInt f t dir s ≤ f + 1 := by
  cases dir with
  | rtz => exact Nat.le_succ f
  | rdn | rup => simp only [rndInt]; split <;> omega
  | rne =>
    cases t with
    | half => simp only [rndInt]; split <;> omega
    | _ => simp only [rndInt]; omega
  | rmm => cases t <;> simp only [rndInt] <;> omega

/-- Below 2^n quanta a magnitude is rounded to at most 2^n of them. -/
theorem Magnitude.Pos.rndInt_split_le {m : Magnitude} (h : m.Pos) {q : ℤ} {n : ℕ} (hlt : m.val < 2 ^ n * (2 : ℝ) ^ q)
    (dir : Directive) (s : Bool) : rndInt (m.split q).1 (m.split q).2 dir s ≤ 2 ^ n := by
  have hfloor : ((m.split q).1 : ℤ) < (2 ^ n : ℕ) := by
    rw [← (h.isSplit_split q).floor, Int.floor_lt]
    exact_mod_cast (div_lt_iff₀ (zpow_pos two_pos q)).mpr hlt
  exact (rndInt_le_succ ..).trans (Int.ofNat_lt.mp hfloor)

/-- A normal magnitude below the last binade is not rounded past MAXF. -/
theorem Magnitude.Pos.roundedUnits_le_maxUnits {m : Magnitude} (h : m.Pos) {fmt : Fmt} (hmin : emin fmt ≤ m.floorLog2)
    (hmax : m.floorLog2 < emax fmt) (s : Bool) (dir : Directive) : (roundedUnits fmt s m dir).1 ≤ maxUnits fmt := by
  have hlt : m.val < 2 ^ precision fmt * (2 : ℝ) ^ (m.floorLog2 - fracBits fmt) := by
    rw [← two_zpow_eq_mul (a := m.floorLog2 + 1) (precision fmt) (by rw [precision]; push_cast; ring), h.floorLog2_eq_log]
    exact_mod_cast Int.lt_zpow_succ_log_self one_lt_two m.val
  have hround := h.rndInt_split_le hlt dir s
  have hexp : (m.floorLog2 - fracBits fmt - (emin fmt - fracBits fmt)).toNat + 1 ≤ (emax fmt - emin fmt).toNat := by omega
  have htwo : 2 ≤ 2 ^ precision fmt := by cases fmt <;> decide
  rw [roundedUnits, quantumExp, max_eq_left hmin, maxUnits]
  generalize (m.floorLog2 - fracBits fmt - (emin fmt - fracBits fmt)).toNat = j at hexp ⊢
  calc _ ≤ 2 ^ precision fmt * 2 ^ j := Nat.mul_le_mul_right _ hround
    _ ≤ (2 ^ precision fmt - 1) * 2 * 2 ^ j := Nat.mul_le_mul_right _ (by omega)
    _ = (2 ^ precision fmt - 1) * 2 ^ (j + 1) := by ring
    _ ≤ (2 ^ precision fmt - 1) * 2 ^ (emax fmt - emin fmt).toNat := Nat.mul_le_mul_left _ (Nat.pow_le_pow_right two_pos hexp)

/-- A normal magnitude is not tiny under either rule. -/
theorem tiny_of_normal {m : Magnitude} {fmt : Fmt} (hmin : emin fmt ≤ m.floorLog2) (t : Tininess) (s : Bool) (dir : Directive) :
    tiny t fmt s m dir = false := by
  cases t <;> simp [tiny, not_lt.mpr hmin]

/-- A normal magnitude below the last binade neither overflows nor underflows. -/
theorem Magnitude.Pos.round_raised_of_normal {m : Magnitude} (h : m.Pos) {fmt : Fmt} (hmin : emin fmt ≤ m.floorLog2)
    (hmax : m.floorLog2 < emax fmt) (t : Tininess) (s : Bool) (dir : Directive) :
    (round t fmt s m dir).raised = flagIf (roundedUnits fmt s m dir).2 flagNX := by
  simp only [round, if_neg (h.roundedUnits_le_maxUnits hmin hmax s dir).not_gt, tiny_of_normal hmin]
  exact BitVec.zero_or

/-! ## The flags of the square root (43_arith.md R144, 41_ieee_numerics.md R118) -/

theorem log2_units_lt {fmt : Fmt} {v : Pattern fmt} (h : ¬ isZero fmt v = true) : (units fmt v).log2 < fracBits fmt + expMax fmt := by
  rw [Nat.log2_lt (units_pos h).ne']
  have hf := fracOf_lt fmt v
  have hx := expOf_le_expMax fmt v
  by_cases h0 : expOf fmt v = 0
  · rw [units_of_exp_zero h0]
    exact hf.trans_le (Nat.pow_le_pow_right two_pos (Nat.le_add_right ..))
  · rw [units_of_exp_ne_zero h0]
    calc _ < 2 ^ (fracBits fmt + 1) * 2 ^ (expOf fmt v - 1) := by gcongr; omega
      _ = 2 ^ (fracBits fmt + expOf fmt v) := by rw [← pow_add]; congr 1; omega
      _ ≤ 2 ^ (fracBits fmt + expMax fmt) := Nat.pow_le_pow_right two_pos (by omega)

theorem floorLog2Ratio_bounds (num den : Nat) :
    (num.log2 : ℤ) - den.log2 - 1 ≤ floorLog2Ratio num den ∧ floorLog2Ratio num den ≤ num.log2 - den.log2 := by
  simp only [floorLog2Ratio]
  split <;> omega

/-- The root halves the exponent, so it is normal and far from the last binade. -/
theorem floorLog2_root_bounds {fmt : Fmt} {v : Pattern fmt} (h : ¬ isZero fmt v = true) :
    emin fmt ≤ (Magnitude.root (units fmt v) (2 ^ minsubExp fmt)).floorLog2
      ∧ (Magnitude.root (units fmt v) (2 ^ minsubExp fmt)).floorLog2 < emax fmt := by
  have hunits := log2_units_lt h
  obtain ⟨hge, hle⟩ := floorLog2Ratio_bounds (units fmt v) (2 ^ minsubExp fmt)
  rw [Nat.log2_two_pow] at hge hle
  rw [Magnitude.floorLog2]
  cases fmt <;> simp only [minsubExp, expMax, expBits, fracBits, emin, emax, bias] at hunits hge hle ⊢ <;> omega

theorem flagIf_eq_or (c : Bool) (fl : FlagSet) : flagIf c fl = 0#5 ∨ flagIf c fl = fl := by
  cases c
  · exact .inl rfl
  · exact .inr rfl

theorem sqrt_raised (cfg : Config) (fmt : Fmt) (a : Pattern fmt) (dir : Directive) :
    (sqrt cfg fmt a dir).raised = 0#5 ∨ (sqrt cfg fmt a dir).raised = flagNX ∨ (sqrt cfg fmt a dir).raised = flagNV := by
  rw [sqrt]
  split_ifs with hnan hzero hneg hinf
  · exact (flagIf_eq_or _ flagNV).imp_right .inr
  · exact .inl rfl
  · exact .inr (.inr rfl)
  · exact .inl rfl
  · have hpos : (Magnitude.root (units fmt a) (2 ^ minsubExp fmt)).Pos := ⟨units_pos hzero, Nat.two_pow_pos _⟩
    obtain ⟨hmin, hmax⟩ := floorLog2_root_bounds hzero
    rw [roundedResult, hpos.round_raised_of_normal hmin hmax]
    exact (flagIf_eq_or _ flagNX).imp_right .inl

/-- Settles O46: a trap leaves the flags alone, and the root's own flags are none, NX or NV. -/
theorem squareRootRaisesAtMostInexactOrInvalid : Obligations.SquareRootRaisesAtMostInexactOrInvalid := by
  intro fmt rd rs1 rm s t h
  rw [exec_sqrtInstr] at h
  obtain ⟨-, ht⟩ | ⟨-, -, ht⟩ | ⟨dir, -, -, ht⟩ := roundingOp_cases h <;> cases ht
  · exact .inl rfl
  · exact .inl rfl
  · have hflags : (sqrtBody fmt rd rs1 dir (setLibRm dir s)).fflags
        = s.fflags ||| (sqrt s.build fmt (readPort fmt rs1 (setLibRm dir s)) dir).raised := finishFp_fflags fmt rd _ (setLibRm dir s)
    rw [hflags]
    obtain hr | hr | hr := sqrt_raised s.build fmt (readPort fmt rs1 (setLibRm dir s)) dir <;> rw [hr]
    · exact .inl BitVec.or_zero
    · exact .inr (.inl rfl)
    · exact .inr (.inr rfl)

end Sys2Proof.Machine

/-! # The minimum, maximum and comparison family

The machine compares extended reals in units of MINSUB; `ExtValue.toEReal` maps them to the extended reals of 41_ieee_numerics.md R117
and keeps `<` and `=` both ways, so each primitive is the spec's; the order is that of R117 also where vectors V78 and V86 differ (log
entry 22). That frm and lib_rm do not matter is a commutation: a body outside the Resolver does the same to a state with other rounding
registers (`State.withRounding`). -/

namespace Sys2Proof.Machine

/-! ## The order of values (41_ieee_numerics.md R117) -/

/-- The extended real of a value counted in MINSUB = 1 / 2^K. -/
noncomputable def ExtValue.toEReal (fmt : Fmt) : ExtValue → EReal
  | .negInf => ⊥
  | .fin k => ((k / 2 ^ minsubExp fmt : ℝ) : EReal)
  | .posInf => ⊤

theorem extValue_eq_toEReal (fmt : Fmt) (v : Pattern fmt) : Reference.extValue fmt v = (valueOf fmt v).toEReal fmt := by
  rw [Reference.extValue, valueOf, value_eq_signedUnits]
  cases isInf fmt v <;> cases signOf fmt v <;> rfl

theorem ExtValue.lt_iff (fmt : Fmt) (x y : ExtValue) : x.lt y = true ↔ x.toEReal fmt < y.toEReal fmt := by
  cases x <;> cases y <;> simp [ExtValue.lt, ExtValue.toEReal, div_lt_div_iff_of_pos_right]

theorem ExtValue.eq_iff (fmt : Fmt) (x y : ExtValue) : x = y ↔ x.toEReal fmt = y.toEReal fmt := by
  cases x <;> cases y <;> simp [ExtValue.toEReal]

section Operands
variable (fmt : Fmt) (a b : Pattern fmt)

theorem valueOf_lt_iff : (valueOf fmt a).lt (valueOf fmt b) = true ↔ Reference.extValue fmt a < Reference.extValue fmt b := by
  rw [extValue_eq_toEReal, extValue_eq_toEReal, ExtValue.lt_iff fmt]

theorem valueOf_eq_iff : valueOf fmt a = valueOf fmt b ↔ Reference.extValue fmt a = Reference.extValue fmt b := by
  rw [extValue_eq_toEReal, extValue_eq_toEReal, ExtValue.eq_iff fmt]

theorem valueOf_le_iff :
    ((valueOf fmt a).lt (valueOf fmt b) || decide (valueOf fmt a = valueOf fmt b)) = true
      ↔ Reference.extValue fmt a ≤ Reference.extValue fmt b := by
  rw [Bool.or_eq_true, decide_eq_true_iff, valueOf_lt_iff, valueOf_eq_iff, le_iff_lt_or_eq]

/-! ## The primitives are the spec's (44_minmax_compare.md R155, R160) -/

theorem minMaxLt_iff : minMaxLt fmt a b = true ↔ Reference.minMaxLt fmt a b := by
  rw [minMaxLt, Reference.minMaxLt]
  split
  · simp
  · exact valueOf_lt_iff fmt a b

open Classical in
/-- The operand picked is the same under both orders. -/
theorem ite_minMaxLt (v w : Pattern fmt) : (if minMaxLt fmt a b then v else w) = if Reference.minMaxLt fmt a b then v else w :=
  if_congr (minMaxLt_iff fmt a b) rfl rfl

theorem minMax_eq_reference (cfg : Config) (isMin : Bool) : minMax cfg fmt isMin a b = Reference.minMax cfg fmt isMin a b := by
  simp only [minMax, Reference.minMax, ite_minMaxLt]
  rfl

open Classical in
theorem boolResult_eq_ite {c : Bool} {P : Prop} (h : c = true ↔ P) : boolResult c = if P then 1#64 else 0#64 :=
  if_congr h rfl rfl

theorem feq_eq_reference (cfg : Config) : feq cfg fmt a b = Reference.compare cfg fmt true (fun x y => x = y) a b := by
  rw [feq, Reference.compare, boolResult_eq_ite (decide_eq_true_iff.trans (valueOf_eq_iff fmt a b))]
  rfl

theorem flt_eq_reference (cfg : Config) : flt fmt a b = Reference.compare cfg fmt false (fun x y => x < y) a b := by
  rw [flt, Reference.compare, boolResult_eq_ite (valueOf_lt_iff fmt a b)]
  rfl

theorem fle_eq_reference (cfg : Config) : fle fmt a b = Reference.compare cfg fmt false (fun x y => x ≤ y) a b := by
  rw [fle, Reference.compare, boolResult_eq_ite (valueOf_le_iff fmt a b)]
  rfl

end Operands

/-! ## The hand-back of an integer result (40_control_path.md R80, 10_state.md R32) -/

/-- x[rd] after a result that fits in XLEN bits is written to it. -/
theorem readX_writeX_of_fits {v : XWord} {s : State} (h : truncXlen s.build.xlen v = v) (rd : Reg) :
    readX rd (writeX rd v s) = if rd = 0#5 then 0#64 else v := by
  split
  next hrd => rw [hrd, readX_zero]
  next hrd => rw [readX_writeX_same hrd, h]

/-- An instruction that ends in handing back an integer of XLEN bits under the directive `dir` delivers it. -/
theorem deliversInt_of_exec {i : Instr} {rd : Reg} {p : Raised XWord} {dir : Directive} {s : State}
    (hfits : truncXlen s.build.xlen p.result = p.result) (h : exec i s = .next (finishInt rd p (setLibRm dir s))) :
    Reference.DeliversInt i rd p dir 0#5 s := by
  refine ⟨_, h, ?_, readX_writeX_of_fits (s := accumulate p.raised (setLibRm dir s)) hfits rd,
    fun r hr => readX_writeX_of_ne hr _ (accumulate p.raised (setLibRm dir s)), fun r => readF_congr ?_ r, ?_, ?_, ?_,
    (exec_effect h).keepsControl, ?_⟩ <;> simp [finishInt_eq]

/-! ## The instructions (44_minmax_compare.md R156 to R166) -/

/-- Past the gate an operation outside the Resolver runs its body, with lib_rm as it stands. -/
theorem plainOp_of_gatePasses {isGated : Bool} {s : State} (h : GatePasses isGated s) (body : State → State) :
    plainOp isGated body s = .next (body (setLibRm s.libRm s)) :=
  plainOp_runs ((gateFails_eq_false_iff isGated s).mpr h) body

theorem exec_minMaxInstr (fmt : Fmt) (isMin : Bool) (rd rs1 rs2 : Reg) (s : State) :
    exec (Reference.minMaxInstr fmt isMin rd rs1 rs2) s = plainOp true (minMaxBody fmt isMin rd rs1 rs2) s := by
  cases fmt <;> cases isMin <;> rfl

/-- Settles O47: the machine's minimum and maximum are the spec's. -/
theorem minAndMaxDeliverTheSpecResult : Obligations.MinAndMaxDeliverTheSpecResult := by
  intro fmt isMin rd rs1 rs2 s hgate
  rw [← minMax_eq_reference]
  apply deliversFp_of_exec
  rw [exec_minMaxInstr, plainOp_of_gatePasses hgate]
  rfl

/-- The result of a comparison, 0 or 1, fits in XLEN bits. -/
theorem truncXlen_compare (xlen : Xlen) (cfg : Config) (fmt : Fmt) (quiet : Bool) (holds : EReal → EReal → Prop) (a b : Pattern fmt) :
    truncXlen xlen (Reference.compare cfg fmt quiet holds a b).result = (Reference.compare cfg fmt quiet holds a b).result := by
  rw [Reference.compare]
  cases xlen <;> split_ifs <;> rfl

section Compare
variable (fmt : Fmt) (rd rs1 rs2 : Reg) (s : State)

theorem exec_eqInstr :
    exec (Reference.eqInstr fmt rd rs1 rs2) s = plainOp true (compareBody fmt (feq · fmt · ·) rd rs1 rs2) s := by
  cases fmt <;> rfl

theorem exec_ltInstr :
    exec (Reference.ltInstr fmt rd rs1 rs2) s = plainOp true (compareBody fmt (fun _ => flt fmt) rd rs1 rs2) s := by
  cases fmt <;> rfl

theorem exec_leInstr :
    exec (Reference.leInstr fmt rd rs1 rs2) s = plainOp true (compareBody fmt (fun _ => fle fmt) rd rs1 rs2) s := by
  cases fmt <;> rfl

end Compare

/-- Past the gate a comparison delivers its primitive on the operands it was given. -/
theorem deliversInt_of_compareBody {fmt : Fmt} {i : Instr} {rd rs1 rs2 : Reg} {s : State} {quiet : Bool} {holds : EReal → EReal → Prop}
    {prim : Config → Pattern fmt → Pattern fmt → Raised XWord}
    (hprim : ∀ cfg a b, prim cfg a b = Reference.compare cfg fmt quiet holds a b)
    (hi : exec i s = plainOp true (compareBody fmt prim rd rs1 rs2) s) (hgate : GatePasses true s) :
    Reference.DeliversInt i rd (Reference.compare s.build fmt quiet holds (readPort fmt rs1 s) (readPort fmt rs2 s)) s.libRm 0#5 s := by
  apply deliversInt_of_exec (truncXlen_compare _ _ _ _ _ _ _)
  rw [hi, plainOp_of_gatePasses hgate, compareBody, hprim]
  rfl

/-- Settles O48: the machine's comparisons are the spec's. -/
theorem comparisonsDeliverTheSpecResult : Obligations.ComparisonsDeliverTheSpecResult := fun fmt rd rs1 rs2 s hgate =>
  ⟨deliversInt_of_compareBody (fun cfg a b => feq_eq_reference fmt a b cfg) (exec_eqInstr fmt rd rs1 rs2 s) hgate,
    deliversInt_of_compareBody (fun cfg a b => flt_eq_reference fmt a b cfg) (exec_ltInstr fmt rd rs1 rs2 s) hgate,
    deliversInt_of_compareBody (fun cfg a b => fle_eq_reference fmt a b cfg) (exec_leInstr fmt rd rs1 rs2 s) hgate⟩

/-! ## frm and lib_rm (44_minmax_compare.md R167, 40_control_path.md R87) -/

/-- The state with frm and lib_rm put to the given values. -/
def State.withRounding (s : State) (m : BitVec 3) (d : Directive) : State := { s with frm := m, libRm := d }

section WithRounding
variable (m : BitVec 3) (d : Directive)

theorem writeX_withRounding (rd : Reg) (v : XWord) (s : State) : writeX rd v (s.withRounding m d) = (writeX rd v s).withRounding m d := by
  unfold writeX
  split <;> rfl

theorem countDraw_withRounding (s : State) : countDraw (s.withRounding m d) = (countDraw s).withRounding m d := by
  cases hn : s.build.nanMode <;> simp [countDraw, State.withRounding, hn]

theorem accumulate_withRounding (raised : FlagSet) (s : State) :
    accumulate raised (s.withRounding m d) = (accumulate raised s).withRounding m d := rfl

theorem finishFp_withRounding (fmt : Fmt) (rd : Reg) (p : Raised (FpResult fmt)) (s : State) :
    finishFp fmt rd p (s.withRounding m d) = (finishFp fmt rd p s).withRounding m d := by
  rw [finishFp_eq, finishFp_eq, handedBack_congr (s := s) rfl rfl, accumulate_withRounding, countDraw_withRounding]
  split <;> rfl

theorem completeInt_withRounding (rd : Reg) (v : XWord) (s : State) :
    completeInt rd v (s.withRounding m d) = (completeInt rd v s).withRounding m d := by
  rw [completeInt, writeX_withRounding]
  rfl

theorem finishInt_withRounding (rd : Reg) (p : Raised XWord) (s : State) :
    finishInt rd p (s.withRounding m d) = (finishInt rd p s).withRounding m d := by
  rw [finishInt, accumulate_withRounding, completeInt_withRounding]
  rfl

theorem plainOp_withRounding {isGated : Bool} {body : State → State} {s t : State}
    (hbody : body (s.withRounding m d) = (body s).withRounding m d) (h : plainOp isGated body s = .next t) :
    plainOp isGated body (s.withRounding m d) = .next (t.withRounding m d) := by
  obtain ⟨hg, ht⟩ | ⟨hg, ht⟩ := plainOp_cases h <;> cases ht
  · exact plainOp_gate (s := s.withRounding m d) hg body
  · rw [← hbody]
    exact plainOp_runs (s := s.withRounding m d) hg body

end WithRounding

/-- Settles O22: an instruction without a rounding code is a minimum or maximum, a comparison or a classification, and hands back what
does not depend on frm or lib_rm. -/
theorem minMaxCompareClassifyIgnoreRounding : Obligations.MinMaxCompareClassifyIgnoreRounding := by
  intro i s t m d hcode h
  obtain ⟨_, _, _, _, hrm, -⟩ | ⟨_, _, _, hrm, -⟩ | ⟨fmt, rd, p, -, -, -, he⟩ | ⟨rd, p, -, -, -, he⟩ | ⟨rd, p, -, -, -, he⟩ :=
    exec_shape i
  · cases hcode.symm.trans hrm
  · cases hcode.symm.trans hrm
  · rw [he] at h ⊢
    exact plainOp_withRounding m d (finishFp_withRounding m d fmt rd (p s.build s.f) s) h
  · rw [he] at h ⊢
    exact plainOp_withRounding m d (finishInt_withRounding m d rd (p s.build s.f) s) h
  · rw [he] at h ⊢
    exact plainOp_withRounding m d (completeInt_withRounding m d rd (p s.build s.f) s) h

end Sys2Proof.Machine

/-! # The conversion family: between the formats and the integers, and between the two formats

A conversion is the spec's over the reals by the facts of the numerics family; the machine's whole-number rounding of a finite pattern
is that of its value, zero included (`isSplit_split_magnitudeOf`). What is converted without rounding is told by one predicate: a number
of MINSUB is `Representable` when it is a significand of the format's precision times a power of two in the exponent's range, and then
it is packed and rounded to exactly its pattern (`Representable.exists_pattern`, `Representable.round_eq`). That W and WU to double
raise nothing and both round trips follow from it. -/

namespace Sys2Proof.Machine

/-! ## The integers at the ports (45_convert.md R169, R178) -/

/-- Settles O59: both sides are evaluated. -/
theorem saturationLimitsAreTheTablesNumbers : Obligations.SaturationLimitsAreTheTablesNumbers := by
  unfold Obligations.SaturationLimitsAreTheTablesNumbers
  decide

theorem truncXlen_rv32_toNat (v : XWord) : (truncXlen .rv32 v).toNat = v.toNat % 2 ^ 32 := by
  rw [truncXlen, BitVec.toNat_and]
  exact Nat.and_two_pow_sub_one_eq_mod v.toNat 32

/-- The low half of a sign-extended 32-bit pattern is the pattern. -/
theorem truncXlen_rv32_signExtend (v : BitVec 32) : truncXlen .rv32 (v.signExtend 64) = v.zeroExtend 64 := by
  apply BitVec.eq_of_toNat_eq
  rw [truncXlen_rv32_toNat, BitVec.toNat_signExtend, BitVec.toNat_setWidth]
  split <;> omega

theorem truncXlen_rv32_zeroExtend (v : BitVec 32) : truncXlen .rv32 (v.zeroExtend 64) = v.zeroExtend 64 := by
  apply BitVec.eq_of_toNat_eq
  rw [truncXlen_rv32_toNat, BitVec.toNat_setWidth]
  omega

theorem intResult_eq_widened (xlen : Xlen) (t : IntType) (r : ℤ) : intResult xlen t r = Reference.widened xlen t r := by
  cases xlen with
  | rv64 => cases t <;> rfl
  | rv32 =>
    cases t with
    | w | wu => exact truncXlen_rv32_signExtend _
    | l | lu => rfl

/-- The result of a conversion that exists fits in XLEN bits. -/
theorem truncXlen_widened {xlen : Xlen} {t : IntType} (h : t = .l ∨ t = .lu → xlen = .rv64) (r : ℤ) :
    truncXlen xlen (Reference.widened xlen t r) = Reference.widened xlen t r := by
  cases xlen with
  | rv64 => rfl
  | rv32 =>
    cases t with
    | w | wu => exact truncXlen_rv32_zeroExtend _
    | l => cases h (.inl rfl)
    | lu => cases h (.inr rfl)

theorem intOperand_eq_operand (t : IntType) (i : XWord) : intOperand t i = Reference.operand t i := by
  have hi := i.isLt
  cases t <;> simp only [intOperand, Reference.operand, BitVec.toInt_eq_toNat_cond, extractLsb'_low_toNat]
  · split_ifs <;> omega
  · split_ifs <;> omega

/-- An integer within the type's range is what the conversion reads back from its 64-bit pattern. -/
theorem intOperand_ofInt {t : IntType} {k : ℤ} (hmin : t.min ≤ k) (hmax : k ≤ t.max) : intOperand t (BitVec.ofInt 64 k) = k := by
  rw [intOperand_eq_operand]
  cases t <;> simp only [IntType.min, IntType.max] at hmin hmax <;> simp only [Reference.operand, BitVec.toNat_ofInt] <;> omega

/-- The magnitude of what a conversion reads has at most 64 bits. -/
theorem natAbs_intOperand_lt (t : IntType) (i : XWord) : (intOperand t i).natAbs < 2 ^ 64 := by
  have hi := i.isLt
  rw [intOperand_eq_operand]
  cases t <;> simp only [Reference.operand] <;> omega

/-- What W and WU read has at most 32 bits. -/
theorem natAbs_intOperand_lt_of_word {t : IntType} (ht : t = .w ∨ t = .wu) (i : XWord) : (intOperand t i).natAbs < 2 ^ 32 := by
  rw [intOperand_eq_operand]
  obtain rfl | rfl := ht <;> simp only [Reference.operand] <;> omega

/-! ## Past the width check, the gate and the Resolver (60_exceptions.md R208, 40_control_path.md R80) -/

/-- A conversion of L or LU exists when XLEN = 64, one of W or WU in every build. -/
theorem wf_of_needsRv64 {i : Instr} {t : IntType} {xlen : Xlen} (hi : i.needsRv64 = decide (t = .l ∨ t = .lu))
    (h : t = .l ∨ t = .lu → xlen = .rv64) : i.wf xlen = true := by
  rw [Instr.wf, hi]
  by_cases ht : t = .l ∨ t = .lu
  · simp [h ht]
  · simp [ht]

theorem roundingOp_of_gatePasses {s : State} {rm : RoundingCode} {dir : Directive} (hgate : GatePasses true s)
    (hresolve : resolve s rm = some dir) (body : Directive → State → State) :
    roundingOp rm body s = .next (body dir (setLibRm dir s)) :=
  roundingOp_runs ((gateFails_eq_false_iff true s).mpr hgate) hresolve body

/-! ## Float to integer (45_convert.md R168; 41_ieee_numerics.md R116) -/

/-- A finite pattern's magnitude, a zero included, is split at its whole part. -/
theorem isSplit_split_magnitudeOf (fmt : Fmt) (v : Pattern fmt) : IsSplit ((magnitudeOf fmt v).split 0) (magnitudeOf fmt v).val := by
  have hden : 0 < (scaled (units fmt v) (2 ^ minsubExp fmt) 0).2 := by simp [scaled]
  rw [← div_one (magnitudeOf fmt v).val, ← zpow_zero 2, magnitudeOf, Magnitude.val, ← scaled_div]
  exact isSplit_ratio hden

theorem value_eq_signFactor_mul_val (fmt : Fmt) (v : Pattern fmt) :
    Reference.value fmt v = Reference.signFactor (signOf fmt v) * (magnitudeOf fmt v).val := value_eq_signFactor_mul fmt v

/-- A whole number splits into itself and nothing. -/
theorem IsSplit.eq_of_natCast {n : Nat × Tail} {k : ℕ} (h : IsSplit n k) : n = (k, .zero) := by
  have hfloor : n.1 = k := by exact_mod_cast h.floor.symm.trans (Int.floor_natCast k)
  have hrest : ¬ n.2 ≠ .zero := by
    rw [← Tail.Places.pos_iff h, hfloor, sub_self]
    exact lt_irrefl 0
  exact Prod.ext hfloor (not_not.mp hrest)

theorem rndInt_zero_tail (f : Nat) (dir : Directive) (s : Bool) : rndInt f .zero dir s = f := by
  cases dir <;> simp [rndInt]

theorem reference_rndInt_zero (dir : Directive) (s : Bool) : Reference.rndInt 0 dir s = 0 := by
  have hsplit : IsSplit (0, .zero) 0 := by simp [IsSplit, Tail.Places]
  rw [hsplit.rndInt_eq, rndInt_zero_tail, Nat.cast_zero]

/-- Rounding to an integer is rounding the magnitude under the sign; both signs of zero give 0. -/
theorem rndint_signFactor_mul {y : ℝ} (hy : 0 ≤ y) (s : Bool) (dir : Directive) :
    Reference.rndint (Reference.signFactor s * y) dir = if s then -Reference.rndInt y dir s else Reference.rndInt y dir s := by
  obtain rfl | hpos := hy.eq_or_lt
  · simp [Reference.rndint, reference_rndInt_zero]
  · cases s <;> simp [Reference.rndint, Reference.signFactor, hpos, hpos.not_gt, abs_of_pos hpos]

/-- Rounding a finite pattern to an integer is rounding its value. -/
theorem roundToInt_eq (fmt : Fmt) (v : Pattern fmt) (dir : Directive) :
    roundToInt fmt v dir = (Reference.rndint (Reference.value fmt v) dir,
      decide ((Reference.rndint (Reference.value fmt v) dir : ℝ) ≠ Reference.value fmt v)) := by
  have hsplit := isSplit_split_magnitudeOf fmt v
  have hval : 0 ≤ (magnitudeOf fmt v).val := by rw [magnitudeOf, Magnitude.val]; positivity
  rw [roundToInt, value_eq_signFactor_mul_val, rndint_signFactor_mul hval, hsplit.rndInt_eq]
  refine Prod.ext rfl (decide_eq_decide.mpr (not_congr ?_))
  rw [← hsplit.rndInt_eq_self_iff dir (signOf fmt v)]
  cases signOf fmt v <;> simp [Reference.signFactor]

theorem floatToInt_eq_reference (fmt : Fmt) (t : IntType) (a : Pattern fmt) (dir : Directive) :
    floatToInt fmt t a dir = Reference.floatToInt fmt t a dir := by
  simp only [floatToInt, Reference.floatToInt, roundToInt_eq, flagIf, decide_eq_true_eq]
  rfl

theorem exec_toIntInstr (fmt : Fmt) (t : IntType) (rd rs1 : Reg) (rm : RoundingCode) :
    exec (Reference.toIntInstr fmt t rd rs1 rm)
      = behindXlen (Reference.toIntInstr fmt t rd rs1 rm) (roundingOp rm (f2iBody fmt t rd rs1)) := by
  cases fmt <;> cases t <;> rfl

theorem needsRv64_toIntInstr (fmt : Fmt) (t : IntType) (rd rs1 : Reg) (rm : RoundingCode) :
    (Reference.toIntInstr fmt t rd rs1 rm).needsRv64 = decide (t = .l ∨ t = .lu) := by
  cases fmt <;> cases t <;> rfl

/-- Settles O49: past the width check, the gate and the Resolver, the machine's integer is the spec's, and so is its widening. -/
theorem floatToIntegerDeliversTheSpecResult : Obligations.FloatToIntegerDeliversTheSpecResult := by
  intro fmt ty rd rs1 rm dir s hgate hresolve hxlen r
  apply deliversInt_of_exec (truncXlen_widened hxlen r.result)
  rw [exec_toIntInstr, behindXlen_of_wf (wf_of_needsRv64 (needsRv64_toIntInstr fmt ty rd rs1 rm) hxlen),
    roundingOp_of_gatePasses hgate hresolve, f2iBody, f2i, floatToInt_eq_reference, intResult_eq_widened]
  rfl

/-! ## Integer to float (45_convert.md R178) -/

theorem i2f_eq_reference (cfg : Config) (fmt : Fmt) (t : IntType) (i : XWord) (dir : Directive) :
    i2f cfg fmt t i dir = Reference.intToFloat cfg fmt (Reference.operand t i) dir := by
  rw [i2f, Reference.intToFloat, ← intOperand_eq_operand]
  by_cases hz : intOperand t i = 0
  · simp only [if_pos hz]
    rfl
  · simp only [if_neg hz]
    rw [roundedResult_ratio hz one_pos, Nat.cast_one, div_one]

theorem exec_fromIntInstr (fmt : Fmt) (t : IntType) (rd rs1 : Reg) (rm : RoundingCode) :
    exec (Reference.fromIntInstr fmt t rd rs1 rm)
      = behindXlen (Reference.fromIntInstr fmt t rd rs1 rm) (roundingOp rm (i2fBody fmt t rd rs1)) := by
  cases fmt <;> cases t <;> rfl

theorem needsRv64_fromIntInstr (fmt : Fmt) (t : IntType) (rd rs1 : Reg) (rm : RoundingCode) :
    (Reference.fromIntInstr fmt t rd rs1 rm).needsRv64 = decide (t = .l ∨ t = .lu) := by
  cases fmt <;> cases t <;> rfl

/-- Settles O50: past the width check, the gate and the Resolver, the machine's rounded integer is the spec's. -/
theorem integerToFloatDeliversTheSpecResult : Obligations.IntegerToFloatDeliversTheSpecResult := by
  intro fmt ty rd rs1 rm dir s hgate hresolve hxlen
  rw [← i2f_eq_reference]
  apply deliversFp_of_exec
  rw [exec_fromIntInstr, behindXlen_of_wf (wf_of_needsRv64 (needsRv64_fromIntInstr fmt ty rd rs1 rm) hxlen),
    roundingOp_of_gatePasses hgate hresolve]
  rfl

/-! ## Between the formats (45_convert.md R187, R188) -/

theorem narrow_eq_reference (cfg : Config) (a : Pattern .D) (dir : Directive) : narrow cfg a dir = Reference.narrow cfg a dir := by
  simp only [narrow, Reference.narrow, nanResult_eq, exactResult_eq]
  by_cases hz : isZero .D a = true
  · simp only [if_pos hz]
    rfl
  · have hpos : (magnitudeOf .D a).Pos := ⟨units_pos hz, Nat.two_pow_pos _⟩
    rw [hpos.roundedResult_signFactor (value_eq_signFactor_mul_val .D a)]
    rfl

/-- The body of FCVT.S.D, named as the model names those of the other conversions. -/
def narrowBody (rd rs1 : Reg) (dir : Directive) (s : State) : State := finishFp .S rd (narrow s.build (readPort .D rs1 s) dir) s

theorem exec_fcvtSD (rd rs1 : Reg) (rm : RoundingCode) : exec (.fcvtSD rd rs1 rm) = roundingOp rm (narrowBody rd rs1) := rfl

/-- Settles O52: the machine's narrowing is the spec's. -/
theorem narrowingDeliversTheSpecResult : Obligations.NarrowingDeliversTheSpecResult := by
  intro rd rs1 rm dir s hgate hresolve
  rw [← narrow_eq_reference]
  apply deliversFp_of_exec
  rw [exec_fcvtSD, roundingOp_of_gatePasses hgate hresolve]
  rfl

/-- A single's units, counted in the MINSUB of a double. -/
def widenedUnits (a : Pattern .S) : Nat := units .S a * 2 ^ (minsubExp .D - minsubExp .S)

theorem widenedUnits_mul_minsub (a : Pattern .S) :
    widenedUnits a * (2 : ℝ) ^ (emin .D - fracBits .D) = units .S a * (2 : ℝ) ^ (emin .S - fracBits .S) := by
  rw [two_zpow_eq_mul (b := emin .D - fracBits .D) (minsubExp .D - minsubExp .S) (a := emin .S - fracBits .S) (by decide), widenedUnits]
  push_cast
  ring

/-- MINSUB = 1 / 2^K. -/
theorem minsub_eq_inv (fmt : Fmt) : (2 : ℝ) ^ (emin fmt - fracBits fmt) = (2 ^ minsubExp fmt)⁻¹ := by
  rw [← zpow_natCast, ← zpow_neg, minsubExp_eq, neg_neg]

theorem magnitudeOf_val (fmt : Fmt) (v : Pattern fmt) : (magnitudeOf fmt v).val = units fmt v * (2 : ℝ) ^ (emin fmt - fracBits fmt) := by
  rw [minsub_eq_inv, ← div_eq_mul_inv, magnitudeOf, Magnitude.val, Nat.cast_pow, Nat.cast_ofNat]

theorem abs_value (fmt : Fmt) (v : Pattern fmt) : |Reference.value fmt v| = units fmt v * (2 : ℝ) ^ (emin fmt - fracBits fmt) := by
  have hminsub := minsub_pos fmt
  rw [value_eq_units, mul_assoc, abs_mul, abs_of_nonneg (a := (units fmt v : ℝ) * _) (by positivity)]
  cases signOf fmt v <;> simp [Reference.signFactor]

theorem widen_eq_reference (cfg : Config) (a : Pattern .S) : widen cfg a = Reference.widen cfg a := by
  have hpack : pack .D (signOf .S a) (widenedUnits a) = Reference.pack .D (signOf .S a) |Reference.value .S a| := by
    rw [pack_eq_reference, widenedUnits_mul_minsub, abs_value]
  rw [Reference.widen, ← hpack]
  rfl

/-- The body of FCVT.D.S. -/
def widenBody (rd rs1 : Reg) (_ : Directive) (s : State) : State := finishFp .D rd (widen s.build (readPort .S rs1 s)) s

theorem exec_fcvtDS (rd rs1 : Reg) (rm : RoundingCode) : exec (.fcvtDS rd rs1 rm) = roundingOp rm (widenBody rd rs1) := rfl

/-! ## Representable numbers (41_ieee_numerics.md R103, R104, R107) -/

theorem pack_zero (fmt : Fmt) (s : Bool) : pack fmt s 0 = zero fmt s := pack_of_subnormal s (Nat.two_pow_pos _)

/-- A number of MINSUB with a significand of the format's precision and an exponent in its range. -/
def Representable (fmt : Fmt) (n : Nat) : Prop := ∃ f x, f < 2 ^ precision fmt ∧ x ≤ expMax fmt - 2 ∧ n = f * 2 ^ x

theorem representable_units {fmt : Fmt} {v : Pattern fmt} (hexp : expOf fmt v ≠ expMax fmt) : Representable fmt (units fmt v) := by
  have hf := fracOf_lt fmt v
  have hx := expOf_le_expMax fmt v
  have hp : 2 ^ precision fmt = 2 ^ fracBits fmt * 2 := pow_succ ..
  by_cases h0 : expOf fmt v = 0
  · exact ⟨fracOf fmt v, 0, by omega, Nat.zero_le _, by rw [units_of_exp_zero h0, pow_zero, mul_one]⟩
  · exact ⟨2 ^ fracBits fmt + fracOf fmt v, expOf fmt v - 1, by omega, by omega, units_of_exp_ne_zero h0⟩

/-- The significand may also be 2^p itself, which is a power of two. -/
theorem representable_mul_two_pow {fmt : Fmt} {f x : Nat} (hf : f ≤ 2 ^ precision fmt) (hx : x < expMax fmt - 2) :
    Representable fmt (f * 2 ^ x) := by
  obtain hlt | rfl := hf.lt_or_eq
  · exact ⟨f, x, hlt, hx.le, rfl⟩
  · exact ⟨2 ^ fracBits fmt, x + 1, Nat.pow_lt_pow_right one_lt_two (Nat.lt_succ_self _), hx, by rw [precision]; ring⟩

namespace Representable
variable {fmt : Fmt} {n : Nat}

theorem le_maxUnits (h : Representable fmt n) : n ≤ maxUnits fmt := by
  obtain ⟨f, x, hf, hx, rfl⟩ := h
  have hp : 2 ^ precision fmt = 2 ^ fracBits fmt * 2 := pow_succ ..
  rw [maxUnits_eq]
  exact Nat.mul_le_mul (by omega) (Nat.pow_le_pow_right two_pos hx)

/-- The bits of n beyond the precision are zeros, and few enough for the exponent's range. -/
theorem log2_sub_le_and_dvd (h : Representable fmt n) : n.log2 - fracBits fmt ≤ expMax fmt - 2 ∧ 2 ^ (n.log2 - fracBits fmt) ∣ n := by
  obtain ⟨f, x, hf, hx, rfl⟩ := h
  obtain rfl | hf0 := Nat.eq_zero_or_pos f
  · simp
  have hlog : (f * 2 ^ x).log2 < precision fmt + x := by
    rw [Nat.log2_lt (by positivity), pow_add]
    gcongr
  have hle : (f * 2 ^ x).log2 - fracBits fmt ≤ x := by
    rw [precision] at hlog
    omega
  exact ⟨hle.trans hx, (pow_dvd_pow 2 hle).mul_left f⟩

/-- From 2^F on, a representable number is a normal one. -/
theorem exists_normal (h : Representable fmt n) (hn : 2 ^ fracBits fmt ≤ n) :
    ∃ x f, x ≤ expMax fmt - 2 ∧ f < 2 ^ fracBits fmt ∧ n = (2 ^ fracBits fmt + f) * 2 ^ x := by
  have hn0 : n ≠ 0 := ((Nat.two_pow_pos _).trans_le hn).ne'
  have hlog : n.log2 = fracBits fmt + (n.log2 - fracBits fmt) := (Nat.add_sub_cancel' ((Nat.le_log2 hn0).mpr hn)).symm
  have hge := Nat.log2_self_le hn0
  have hlt := Nat.lt_log2_self (n := n)
  obtain ⟨hx, g, hg⟩ := h.log2_sub_le_and_dvd
  rw [pow_succ] at hlt
  rw [hlog, pow_add] at hge hlt
  generalize n.log2 - fracBits fmt = x at hx hg hge hlt
  subst hg
  have hge' : 2 ^ fracBits fmt ≤ g := Nat.le_of_mul_le_mul_left (by linarith) (Nat.two_pow_pos x)
  have hlt' : g < 2 ^ fracBits fmt * 2 := Nat.lt_of_mul_lt_mul_left (a := 2 ^ x) (by linarith)
  exact ⟨x, g - 2 ^ fracBits fmt, hx, by omega, by rw [Nat.add_sub_cancel' hge', mul_comm]⟩

/-- A representable number is that of a finite pattern of either sign. -/
theorem exists_pattern (h : Representable fmt n) (s : Bool) :
    ∃ v, signOf fmt v = s ∧ expOf fmt v ≠ expMax fmt ∧ units fmt v = n := by
  have hexp : 2 < expMax fmt := by cases fmt <;> decide
  have hmax := expMax_lt fmt
  obtain hn | hn := lt_or_ge n (2 ^ fracBits fmt)
  · have h0 : 0 < 2 ^ expBits fmt := Nat.two_pow_pos _
    refine ⟨ofFields fmt s 0 n, signOf_ofFields fmt s h0 hn, ?_, units_ofFields_zero fmt s hn⟩
    rw [expOf_ofFields fmt s h0 hn]
    omega
  · obtain ⟨x, f, hx, hf, rfl⟩ := h.exists_normal hn
    have hx1 : x + 1 < 2 ^ expBits fmt := by omega
    refine ⟨ofFields fmt s (x + 1) f, signOf_ofFields fmt s hx1 hf, ?_, units_ofFields_succ fmt s hx1 hf⟩
    rw [expOf_ofFields fmt s hx1 hf]
    omega

/-- Packing a representable number gives a finite pattern of its sign and units. -/
theorem pack_spec (h : Representable fmt n) (s : Bool) :
    signOf fmt (pack fmt s n) = s ∧ expOf fmt (pack fmt s n) ≠ expMax fmt ∧ units fmt (pack fmt s n) = n := by
  obtain ⟨v, rfl, hexp, rfl⟩ := h.exists_pattern s
  rw [pack_signOf_units]
  exact ⟨rfl, hexp, rfl⟩

/-- A representable magnitude is rounded to its own pattern, with no flag. -/
theorem round_eq (h : Representable fmt n) {m : Magnitude} (hpos : m.Pos) (hval : m.val = n * (2 : ℝ) ^ (emin fmt - fracBits fmt))
    (t : Tininess) (s : Bool) (dir : Directive) : round t fmt s m dir = ⟨pack fmt s n, noFlags⟩ := by
  have hn0 : n ≠ 0 := by
    rintro rfl
    simpa [hval] using hpos.val_pos
  obtain ⟨-, hdvd⟩ := h.log2_sub_le_and_dvd
  have hq : quantumExp fmt m = (n.log2 - fracBits fmt : ℕ) + (emin fmt - fracBits fmt) := by
    rw [quantumExp, hpos.floorLog2_eq_log, hval, log_mul_two_zpow hn0]
    omega
  have hsplit := hpos.isSplit_split (quantumExp fmt m)
  rw [hval, two_zpow_eq_mul _ hq, mul_div_mul_right _ _ (minsub_pos fmt).ne', ← Nat.cast_ofNat, ← Nat.cast_pow,
    ← Nat.cast_div hdvd (Nat.cast_ne_zero.mpr (Nat.two_pow_pos _).ne')] at hsplit
  have hunits : roundedUnits fmt s m dir = (n, false) := by
    rw [roundedUnits, hsplit.eq_of_natCast]
    simp only [rndInt_zero_tail]
    rw [hq, add_sub_cancel_right, Int.toNat_natCast, Nat.div_mul_cancel hdvd]
    rfl
  simp only [round, hunits, if_neg h.le_maxUnits.not_gt, Bool.and_false]
  rfl

end Representable

theorem isNaN_eq_false_of_exp {fmt : Fmt} {v : Pattern fmt} (h : expOf fmt v ≠ expMax fmt) : isNaN fmt v = false := by
  simp [isNaN, h]

theorem isInf_eq_false_of_exp {fmt : Fmt} {v : Pattern fmt} (h : expOf fmt v ≠ expMax fmt) : isInf fmt v = false := by
  simp [isInf, h]

theorem exp_ne_of_finite {fmt : Fmt} {v : Pattern fmt} (hnan : isNaN fmt v = false) (hinf : isInf fmt v = false) :
    expOf fmt v ≠ expMax fmt := by
  intro hexp
  by_cases hfrac : fracOf fmt v = 0
  · simp [isInf, hexp, hfrac] at hinf
  · simp [isNaN, hexp, hfrac] at hnan

theorem isNaN_eq_false_of_isInf {fmt : Fmt} {v : Pattern fmt} (h : isInf fmt v = true) : isNaN fmt v = false := by
  by_contra hnan
  rw [isInf_of_isNaN (eq_true_of_ne_false hnan)] at h
  cases h

/-! ## Integers that are converted exactly (45_convert.md R189) -/

/-- An integer of a magnitude within 2^p, counted in MINSUB, is representable. -/
theorem representable_natAbs {fmt : Fmt} {k : ℤ} (hk : k.natAbs ≤ 2 ^ precision fmt) :
    Representable fmt (k.natAbs * 2 ^ minsubExp fmt) :=
  representable_mul_two_pow hk (by cases fmt <;> decide)

/-- The pattern of such an integer. -/
def integerPattern (fmt : Fmt) (k : ℤ) : Pattern fmt := pack fmt (decide (k < 0)) (k.natAbs * 2 ^ minsubExp fmt)

theorem i2f_of_natAbs_le (cfg : Config) {fmt : Fmt} {t : IntType} {i : XWord} (hk : (intOperand t i).natAbs ≤ 2 ^ precision fmt)
    (dir : Directive) : i2f cfg fmt t i dir = exactResult (integerPattern fmt (intOperand t i)) := by
  rw [i2f, integerPattern]
  generalize intOperand t i = k at hk
  by_cases hz : k = 0
  · simp only [if_pos hz]
    rw [hz, Int.natAbs_zero, zero_mul, pack_zero]
    rfl
  · have hpos : (Magnitude.ratio k.natAbs 1).Pos := ⟨Int.natAbs_pos.mpr hz, one_pos⟩
    have hval : (Magnitude.ratio k.natAbs 1).val
        = (k.natAbs * 2 ^ minsubExp fmt : ℕ) * (2 : ℝ) ^ (emin fmt - fracBits fmt) := by
      rw [Magnitude.val, minsub_eq_inv]
      push_cast
      rw [div_one, mul_inv_cancel_right₀ (by positivity)]
    simp only [if_neg hz]
    rw [roundedResult, (representable_natAbs hk).round_eq hpos hval]
    rfl

/-- The pattern of an integer within 2^p converts back to it. -/
theorem floatToInt_integerPattern {fmt : Fmt} {t : IntType} {k : ℤ} (hk : k.natAbs ≤ 2 ^ precision fmt) (hmin : t.min ≤ k)
    (hmax : k ≤ t.max) (dir : Directive) : floatToInt fmt t (integerPattern fmt k) dir = ⟨k, noFlags⟩ := by
  obtain ⟨hsign, hexp, hunits⟩ := (representable_natAbs hk).pack_spec (decide (k < 0))
  rw [← integerPattern] at hsign hexp hunits
  have hsplit := isSplit_split_magnitudeOf fmt (integerPattern fmt k)
  have hval : (magnitudeOf fmt (integerPattern fmt k)).val = k.natAbs := by
    rw [magnitudeOf, hunits, Magnitude.val, Nat.cast_mul, mul_div_cancel_right₀ _ (Nat.cast_ne_zero.mpr (Nat.two_pow_pos _).ne')]
  rw [hval] at hsplit
  have hround : roundToInt fmt (integerPattern fmt k) dir = (k, false) := by
    rw [roundToInt, hsplit.eq_of_natCast, hsign]
    simp only [rndInt_zero_tail, decide_eq_true_eq]
    refine Prod.ext ?_ rfl
    dsimp only
    split <;> omega
  simp only [floatToInt, isNaN_eq_false_of_exp hexp, isInf_eq_false_of_exp hexp, hround, if_neg hmin.not_gt, if_neg hmax.not_gt]
  rfl

/-! ## The flags of an integer-to-float conversion (45_convert.md R178, R183, R184) -/

/-- An integer of at most 64 bits is normal and below the last binade. -/
theorem floorLog2_natAbs_bounds {k : ℤ} (hk : k ≠ 0) (hlt : k.natAbs < 2 ^ 64) (fmt : Fmt) :
    emin fmt ≤ (Magnitude.ratio k.natAbs 1).floorLog2 ∧ (Magnitude.ratio k.natAbs 1).floorLog2 < emax fmt := by
  have hlog : k.natAbs.log2 < 64 := (Nat.log2_lt (Int.natAbs_ne_zero.mpr hk)).mpr hlt
  obtain ⟨hge, hle⟩ := floorLog2Ratio_bounds k.natAbs 1
  rw [show Nat.log2 1 = 0 by decide] at hge hle
  rw [Magnitude.floorLog2]
  cases fmt <;> simp only [emin, emax, bias] <;> omega

theorem i2f_raised (cfg : Config) (fmt : Fmt) (t : IntType) (i : XWord) (dir : Directive) :
    (i2f cfg fmt t i dir).raised = 0#5 ∨ (i2f cfg fmt t i dir).raised = flagNX := by
  have hlt := natAbs_intOperand_lt t i
  rw [i2f]
  generalize intOperand t i = k at hlt
  split
  next => exact .inl rfl
  next hz =>
    have hpos : (Magnitude.ratio k.natAbs 1).Pos := ⟨Int.natAbs_pos.mpr hz, one_pos⟩
    obtain ⟨hmin, hmax⟩ := floorLog2_natAbs_bounds hz hlt fmt
    rw [roundedResult, hpos.round_raised_of_normal hmin hmax]
    exact flagIf_eq_or _ flagNX

/-- W and WU fit in the precision of a double. -/
theorem i2f_raised_double (cfg : Config) {t : IntType} (ht : t = .w ∨ t = .wu) (i : XWord) (dir : Directive) :
    (i2f cfg .D t i dir).raised = 0#5 := by
  have hlt := natAbs_intOperand_lt_of_word ht i
  rw [i2f_of_natAbs_le cfg (hlt.le.trans (Nat.pow_le_pow_right two_pos (by decide)))]
  rfl

/-- Settles O51: a trap leaves the flags alone, and the conversion's own flags are none or NX, for W and WU to double none. -/
theorem integerToFloatRaisesAtMostInexact : Obligations.IntegerToFloatRaisesAtMostInexact := by
  intro fmt ty rd rs1 rm s t h
  rw [exec_fromIntInstr] at h
  obtain ⟨-, ht⟩ | ⟨-, -, ht⟩ | ⟨dir, -, -, ht⟩ := roundingOp_cases (behindXlen_next h) <;> cases ht
  · exact ⟨.inl rfl, fun _ _ => rfl⟩
  · exact ⟨.inl rfl, fun _ _ => rfl⟩
  · have hflags : (i2fBody fmt ty rd rs1 dir (setLibRm dir s)).fflags
        = s.fflags ||| (i2f s.build fmt ty (readX rs1 (setLibRm dir s)) dir).raised := finishFp_fflags fmt rd _ (setLibRm dir s)
    rw [hflags]
    refine ⟨?_, ?_⟩
    · obtain hr | hr := i2f_raised s.build fmt ty (readX rs1 (setLibRm dir s)) dir <;> rw [hr]
      · exact .inl BitVec.or_zero
      · exact .inr rfl
    · rintro rfl hty
      rw [i2f_raised_double s.build hty]
      exact BitVec.or_zero

/-! ## Widening and narrowing a single (45_convert.md R188, R189) -/

/-- A single's number of MINSUB, in those of a double, keeps its significand and stays in the exponent's range. -/
theorem representable_widenedUnits {a : Pattern .S} (hexp : expOf .S a ≠ expMax .S) : Representable .D (widenedUnits a) := by
  obtain ⟨f, x, hf, hx, hunits⟩ := representable_units hexp
  refine ⟨f, x + (minsubExp .D - minsubExp .S), hf.trans (Nat.pow_lt_pow_right one_lt_two (by decide)), ?_, ?_⟩
  · exact (Nat.add_le_add_right hx _).trans (by decide)
  · rw [widenedUnits, hunits, pow_add, mul_assoc]

theorem widen_of_finite (cfg : Config) {a : Pattern .S} (hexp : expOf .S a ≠ expMax .S) :
    widen cfg a = exactResult (pack .D (signOf .S a) (widenedUnits a)) := by
  rw [widen, isNaN_eq_false_of_exp hexp, isInf_eq_false_of_exp hexp, if_neg Bool.false_ne_true, if_neg Bool.false_ne_true]
  split
  next hz => rw [widenedUnits, units_eq_zero_iff.mpr hz, zero_mul, pack_zero]
  next => rfl

/-- Settles O53: the machine's widening is the spec's, and the packed double has the sign and the units of the single. -/
theorem wideningDeliversTheSpecResult : Obligations.WideningDeliversTheSpecResult := by
  refine ⟨fun rd rs1 rm dir s hgate hresolve => ?_, fun c a hnan hinf => ?_⟩
  · rw [← widen_eq_reference]
    apply deliversFp_of_exec
    rw [exec_fcvtDS, roundingOp_of_gatePasses hgate hresolve]
    rfl
  · have hexp := exp_ne_of_finite hnan hinf
    obtain ⟨hsign, -, hunits⟩ := (representable_widenedUnits hexp).pack_spec (signOf .S a)
    refine ⟨_, widen_of_finite c hexp, hsign, ?_⟩
    rw [value_eq_units, hsign, hunits, mul_assoc, widenedUnits_mul_minsub, ← mul_assoc, ← value_eq_units]

theorem infinity_signOf {fmt : Fmt} {v : Pattern fmt} (h : isInf fmt v = true) : infinity fmt (signOf fmt v) = v := by
  obtain ⟨hexp, hfrac⟩ : expOf fmt v = expMax fmt ∧ fracOf fmt v = 0 := by simpa [isInf] using h
  rw [infinity, ← hexp, ← hfrac, ofFields_fields]

theorem widen_of_isInf (cfg : Config) {a : Pattern .S} (h : isInf .S a = true) :
    widen cfg a = exactResult (infinity .D (signOf .S a)) := by
  rw [widen, isNaN_eq_false_of_isInf h, if_neg Bool.false_ne_true, if_pos h]

theorem narrow_infinity (cfg : Config) (s : Bool) (dir : Directive) : narrow cfg (infinity .D s) dir = exactResult (infinity .S s) := by
  have hinf := isInf_infinity .D s
  rw [narrow, isNaN_eq_false_of_isInf hinf, if_neg Bool.false_ne_true, if_pos hinf, signOf_infinity]

/-- Narrowing a finite double of a single's sign and units gives the single. -/
theorem narrow_of_widenedUnits (cfg : Config) {v : Pattern .D} {a : Pattern .S} (hv : expOf .D v ≠ expMax .D)
    (ha : expOf .S a ≠ expMax .S) (hsign : signOf .D v = signOf .S a) (hunits : units .D v = widenedUnits a) (dir : Directive) :
    narrow cfg v dir = exactResult a := by
  rw [narrow, isNaN_eq_false_of_exp hv, isInf_eq_false_of_exp hv, if_neg Bool.false_ne_true, if_neg Bool.false_ne_true, hsign]
  split
  next hz =>
    have h0 : units .S a = 0 := by
      rw [← units_eq_zero_iff, hunits, widenedUnits] at hz
      exact (Nat.mul_eq_zero.mp hz).resolve_right (Nat.two_pow_pos _).ne'
    rw [← pack_zero, ← h0, pack_signOf_units]
  next hz =>
    have hpos : (magnitudeOf .D v).Pos := ⟨units_pos hz, Nat.two_pow_pos _⟩
    have hval : (magnitudeOf .D v).val = units .S a * (2 : ℝ) ^ (emin .S - fracBits .S) := by
      rw [magnitudeOf_val, hunits, widenedUnits_mul_minsub]
    rw [roundedResult, (representable_units ha).round_eq hpos hval, pack_signOf_units]
    rfl

/-- Settles O57: an integer within 2^p and a finite single have exact patterns both ways; an infinity stays an infinity. -/
theorem conversionsRoundTrip : Obligations.ConversionsRoundTrip := by
  refine ⟨fun c fmt ty k dir hk hmin hmax => ?_, fun c a hnan => ?_⟩
  · have hread := intOperand_ofInt hmin hmax
    have hk' : k.natAbs ≤ 2 ^ precision fmt := by
      rw [Int.abs_eq_natAbs] at hk
      exact_mod_cast hk
    refine ⟨integerPattern fmt k, ?_, floatToInt_integerPattern hk' hmin hmax dir⟩
    rw [i2f_of_natAbs_le c (by rwa [hread]), hread]
    rfl
  · cases hinf : isInf .S a with
    | true =>
      refine ⟨_, widen_of_isInf c hinf, fun dir => ?_⟩
      rw [narrow_infinity, infinity_signOf hinf]
      rfl
    | false =>
      have hexp := exp_ne_of_finite hnan hinf
      obtain ⟨hsign, hv, hunits⟩ := (representable_widenedUnits hexp).pack_spec (signOf .S a)
      exact ⟨_, widen_of_finite c hexp, narrow_of_widenedUnits c hv hexp hsign hunits⟩

end Sys2Proof.Machine

/-! # The classification family: the class table and its vector

One case split along the decision table (46_classify.md R190) names the class of a pattern: the machine's vector has its bit alone, and
the table holds of it alone (`exists_onlyClass`). Both statements read off it and off what FCLASS hands back. -/

namespace Sys2Proof.Machine

/-! ## The class of a pattern (46_classify.md R190, R193) -/

theorem expMax_ne_zero (fmt : Fmt) : expMax fmt ≠ 0 := by
  cases fmt <;> decide

/-- The row of the class table that a pattern falls in: its bit is the vector, and the other nine rows do not hold. -/
theorem exists_onlyClass (c : Config) (fmt : Fmt) (v : Pattern fmt) :
    ∃ k < 10, classify c fmt v = BitVec.twoPow 10 k
      ∧ Reference.classes c fmt v = (List.range 10).map fun j => decide (k = j) := by
  have hne := expMax_ne_zero fmt
  have hne' : 0 ≠ expMax fmt := hne.symm
  simp only [classify, Reference.classes, beq_eq_decide]
  by_cases hmax : expOf fmt v = expMax fmt
  · by_cases hz : fracOf fmt v = 0
    · cases hs : signOf fmt v with
      | true => exact ⟨0, by decide, by simp [*]; decide⟩
      | false => exact ⟨7, by decide, by simp [*]; decide⟩
    · cases hq : isSNaN c fmt v with
      | true => exact ⟨8, by decide, by simp [*]; decide⟩
      | false => exact ⟨9, by decide, by simp [*]; decide⟩
  · by_cases h0 : expOf fmt v = 0
    · by_cases hz : fracOf fmt v = 0
      · cases hs : signOf fmt v with
        | true => exact ⟨3, by decide, by simp [*]; decide⟩
        | false => exact ⟨4, by decide, by simp [*]; decide⟩
      · cases hs : signOf fmt v with
        | true => exact ⟨2, by decide, by simp [*]; decide⟩
        | false => exact ⟨5, by decide, by simp [*]; decide⟩
    · cases hs : signOf fmt v with
      | true => exact ⟨1, by decide, by simp [*]; decide⟩
      | false => exact ⟨6, by decide, by simp [*]; decide⟩

/-- Bit k of the vector is class k of the table. -/
theorem classify_getLsbD (c : Config) (fmt : Fmt) (v : Pattern fmt) {k : Nat} (hk : k < 10) :
    (classify c fmt v).getLsbD k = (Reference.classes c fmt v).getD k false := by
  obtain ⟨i, hi, hvec, htable⟩ := exists_onlyClass c fmt v
  rw [hvec, htable, BitVec.getLsbD_twoPow]
  simp [hi, hk]

/-- SNAN_BIT_IS_ONE is all of the build that the vector depends on. -/
theorem classify_congr {c c' : Config} (h : c.snanBitIsOne = c'.snanBitIsOne) (fmt : Fmt) (v : Pattern fmt) :
    classify c fmt v = classify c' fmt v := by
  rw [classify, isSNaN, h]
  rfl

/-! ## The hand-back of the vector (46_classify.md R191, R192) -/

/-- A class vector fits in XLEN bits. -/
theorem truncXlen_zeroExtend_classVector (xlen : Xlen) (vec : BitVec 10) :
    truncXlen xlen (vec.zeroExtend 64) = vec.zeroExtend 64 := by
  cases xlen with
  | rv64 => rfl
  | rv32 =>
    apply BitVec.eq_of_toNat_eq
    rw [truncXlen_rv32_toNat, BitVec.toNat_setWidth]
    omega

theorem exec_classInstr_of_gatePasses {s : State} (h : GatePasses s.build.classifyGated s) (fmt : Fmt) (rd rs1 : Reg) :
    exec (Reference.classInstr fmt rd rs1) s
      = .next (completeInt rd ((classify s.build fmt (readPort fmt rs1 s)).zeroExtend 64) s) := by
  rw [exec_classInstr, plainOp_runs ((gateFails_eq_false_iff _ s).mpr h)]
  rfl

/-- An instruction that does nothing but hand back an integer of XLEN bits delivers it with no flag and the lib state as it stands. -/
theorem deliversInt_of_completeInt {i : Instr} {rd : Reg} {v : XWord} {s : State} (hfits : truncXlen s.build.xlen v = v)
    (h : exec i s = .next (completeInt rd v s)) : Reference.DeliversInt i rd ⟨v, 0#5⟩ s.libRm s.libFlags s := by
  refine ⟨_, h, completeInt_outcomes rd v s, readX_writeX_of_fits hfits rd, fun r hr => readX_writeX_of_ne hr v s,
    fun r => readF_congr (completeInt_f rd v s) r, ?_, completeInt_libFlags rd v s, completeInt_libRm rd v s,
    (exec_effect h).keepsControl, completeInt_draws rd v s⟩
  rw [completeInt_fflags, BitVec.or_zero]

/-- Settles O54: the machine's vector is the class table, bit by bit. -/
theorem classifyDeliversTheClassTable : Obligations.ClassifyDeliversTheClassTable := fun fmt rd rs1 s hgate =>
  ⟨classify s.build fmt (readPort fmt rs1 s), fun _ => classify_getLsbD s.build fmt _,
    deliversInt_of_completeInt (truncXlen_zeroExtend_classVector _ _) (exec_classInstr_of_gatePasses hgate fmt rd rs1)⟩

/-- FCLASS traps or hands back a vector; neither touches the flags or the lib state. -/
theorem exec_classInstr_flags {fmt : Fmt} {rd rs1 : Reg} {s t : State} (h : exec (Reference.classInstr fmt rd rs1) s = .next t) :
    t.fflags = s.fflags ∧ t.libFlags = s.libFlags ∧ t.libRm = s.libRm := by
  rw [exec_classInstr] at h
  obtain ⟨-, ht⟩ | ⟨-, ht⟩ := plainOp_cases h <;> cases ht
  · simp
  · simp [classifyBody]

/-- Settles O55: the one bit is that of the pattern's row in the class table. -/
theorem exactlyOneClassBitIsSet : Obligations.ExactlyOneClassBitIsSet := by
  refine ⟨fun c fmt v => ?_, fun fmt rd rs1 s hgate => ?_, fun _ _ fmt v h => classify_congr h fmt v,
    fun _ _ _ _ _ h => exec_classInstr_flags h⟩
  · obtain ⟨k, hk, hvec, -⟩ := exists_onlyClass c fmt v
    exact ⟨k, hk, hvec⟩
  · exact ⟨_, exec_classInstr_of_gatePasses hgate fmt rd rs1, _, completeInt_outcomes _ _ s,
      BitVec.toNat_setWidth_of_le (by decide)⟩

end Sys2Proof.Machine

/-! # The exceptions family: how a request ends, the flags it raises, and what its outcome depends on

An operation of the build completes when it is enabled (`completed_of_enabled`) and traps when it is not (`trapped_of_not_enabled`); the
statements on traps read off these two. The flags of an operation are those of its primitive, and a primitive hands back a NaN, an exact or
a rounded result, each of which raises a set of 60_exceptions.md R196. That the outcome is a function of the request is a congruence: the
shapes of an operation answer alike in two states that hold the same request. -/

namespace Sys2Proof.Machine

/-! ## Enabled operations complete, the others trap (60_exceptions.md R195, R208) -/

/-- The gate passes and the rounding code, if the operation has one, has a directive. -/
def Enabled (i : Instr) (s : State) : Prop :=
  GatePasses (gated s.build i) s ∧ ∀ rm, roundingCode i = some rm → ∃ dir, resolve s rm = some dir

theorem completed_finishFp (fmt : Fmt) (rd : Reg) (p : Raised (FpResult fmt)) (s : State) :
    Completed s (.next (finishFp fmt rd p s)) :=
  ⟨_, _, rfl, finishFp_outcomes fmt rd p s, by cases fmt <;> simp [fpOutcome]⟩

theorem completed_completeInt (rd : Reg) (v : XWord) (s : State) : Completed s (.next (completeInt rd v s)) :=
  ⟨_, _, rfl, completeInt_outcomes rd v s, by simp⟩

theorem completed_finishInt (rd : Reg) (p : Raised XWord) (s : State) : Completed s (.next (finishInt rd p s)) :=
  completed_completeInt rd p.result (accumulate p.raised s)

theorem completed_of_enabled {i : Instr} {s : State} (hw : i.wf s.build.xlen = true) (h : Enabled i s) : Completed s (exec i s) := by
  obtain ⟨hgate, hcode⟩ := h
  have hg := (gateFails_eq_false_iff _ s).mpr hgate
  obtain ⟨rm, fmt, rd, p, hrm, hgated, he⟩ | ⟨rm, rd, p, hrm, hgated, he⟩ | ⟨fmt, rd, p, -, hgated, -, he⟩ | ⟨rd, p, -, hgated, -, he⟩ |
    ⟨rd, p, -, hgated, -, he⟩ := exec_shape i <;> rw [hgated] at hg <;> rw [he]
  · obtain ⟨dir, hr⟩ := hcode rm hrm
    rw [behindXlen_of_wf hw, roundingOp_runs hg hr]
    exact completed_finishFp fmt rd _ (setLibRm dir s)
  · obtain ⟨dir, hr⟩ := hcode rm hrm
    rw [behindXlen_of_wf hw, roundingOp_runs hg hr]
    exact completed_finishInt rd _ (setLibRm dir s)
  · rw [plainOp_runs hg]
    exact completed_finishFp fmt rd _ s
  · rw [plainOp_runs hg]
    exact completed_finishInt rd _ s
  · rw [plainOp_runs hg]
    exact completed_completeInt rd _ s

theorem exec_of_unresolved {i : Instr} {rm : RoundingCode} {s : State} (hw : i.wf s.build.xlen = true) (hcode : roundingCode i = some rm)
    (hr : resolve s rm = none) : exec i s = .next (takeTrap s) := by
  obtain ⟨_, _, _, _, hrm, -, he⟩ | ⟨_, _, _, hrm, -, he⟩ | ⟨_, _, _, hrm, -⟩ | ⟨_, _, hrm, -⟩ | ⟨_, _, hrm, -⟩ := exec_shape i <;>
    cases hcode.symm.trans hrm
  · rw [he, behindXlen_of_wf hw, roundingOp_unresolved hr]
  · rw [he, behindXlen_of_wf hw, roundingOp_unresolved hr]

/-- Settles O21: whatever the gate does, the Resolver's failure is the trap. -/
theorem unresolvableRoundingCodeTraps : Obligations.UnresolvableRoundingCodeTraps := fun _ _ _ => exec_of_unresolved

theorem trapped_of_not_enabled {i : Instr} {s : State} (hw : i.wf s.build.xlen = true) (h : ¬ Enabled i s) : Trapped s (exec i s) := by
  cases hg : gateFails (gated s.build i) s with
  | true => exact exec_of_gateFails hw hg
  | false =>
    have hcode : ¬ ∀ rm, roundingCode i = some rm → ∃ dir, resolve s rm = some dir :=
      fun hres => h ⟨(gateFails_eq_false_iff _ s).mp hg, hres⟩
    push Not at hcode
    obtain ⟨rm, hrm, hres⟩ := hcode
    exact exec_of_unresolved hw hrm (Option.eq_none_iff_forall_ne_some.mpr hres)

theorem not_completed_and_trapped (s : State) (r : StepResult) : ¬(Completed s r ∧ Trapped s r) := by
  rintro ⟨⟨t, o, ht, ho, hne⟩, htrap⟩
  cases ht.symm.trans htrap
  exact hne _ (List.cons.inj ho).1.symm

theorem exec_of_not_wf {i : Instr} {s : State} (hw : i.wf s.build.xlen = false) : exec i s = .refused .absentOperation := by
  have plain (hx : i.needsRv64 = false) : exec i s = .refused .absentOperation := by simp [Instr.wf, hx] at hw
  obtain ⟨_, _, _, _, -, -, he⟩ | ⟨_, _, _, -, -, he⟩ | ⟨_, _, _, -, -, hx, -⟩ | ⟨_, _, -, -, hx, -⟩ | ⟨_, _, -, -, hx, -⟩ := exec_shape i
  · rw [he, behindXlen_of_not_wf hw]
  · rw [he, behindXlen_of_not_wf hw]
  · exact plain hx
  · exact plain hx
  · exact plain hx

/-- Settles O29: an operation of the build is enabled or not, and an absent one stops at the width check. -/
theorem everyRequestCompletesTrapsOrIsRefused : Obligations.EveryRequestCompletesTrapsOrIsRefused := by
  refine fun i s => ⟨fun hw => ⟨?_, not_completed_and_trapped s _⟩, exec_of_not_wf⟩
  by_cases h : Enabled i s
  · exact .inl (completed_of_enabled hw h)
  · exact .inr (trapped_of_not_enabled hw h)

/-- Settles O30: what is not enabled traps, hence does not complete. -/
theorem operationsCompleteExactlyWhenEnabled : Obligations.OperationsCompleteExactlyWhenEnabled := fun _ s hw =>
  ⟨fun hc => by_contra fun h => not_completed_and_trapped s _ ⟨hc, trapped_of_not_enabled hw h⟩, completed_of_enabled hw⟩

/-- Settles O31: the trap keeps everything that enables an operation. -/
theorem returningToATrappedOperationTrapsAgain : Obligations.ReturningToATrappedOperationTrapsAgain := by
  intro i s t htrap hexec
  cases hexec.symm.trans htrap
  cases hw : i.wf s.build.xlen with
  | false => cases (exec_of_not_wf hw).symm.trans htrap
  | true =>
    have hdisabled : ¬ Enabled i s := fun h => not_completed_and_trapped s _ ⟨completed_of_enabled hw h, htrap⟩
    exact trapped_of_not_enabled (s := takeTrap s) hw hdisabled

/-! ## The flags of a primitive (60_exceptions.md R196) -/

/-- A set of R196 that any operation may raise: none, NX, UF with NX, OF with NX, or NV. -/
def IsCommonFlagSet (fl : FlagSet) : Prop := fl ∈ [0#5, 0b00001#5, 0b00011#5, 0b00101#5, 0b10000#5]

@[simp] theorem isCommonFlagSet_noFlags : IsCommonFlagSet noFlags := by simp [IsCommonFlagSet, noFlags]

@[simp] theorem isCommonFlagSet_flagNV : IsCommonFlagSet flagNV := by simp [IsCommonFlagSet, flagNV]

@[simp] theorem isCommonFlagSet_flagNX : IsCommonFlagSet flagNX := by simp [IsCommonFlagSet, flagNX]

theorem isCommonFlagSet_overflow : IsCommonFlagSet (flagOF ||| flagNX) := by
  unfold IsCommonFlagSet
  decide

/-- Underflow is raised only where the result is inexact. -/
theorem isCommonFlagSet_underflow (tiny inexact : Bool) :
    IsCommonFlagSet (flagIf (tiny && inexact) flagUF ||| flagIf inexact flagNX) := by
  unfold IsCommonFlagSet
  cases tiny <;> cases inexact <;> decide

@[simp] theorem isCommonFlagSet_flagIf {fl : FlagSet} (h : IsCommonFlagSet fl) (c : Bool) : IsCommonFlagSet (flagIf c fl) := by
  cases c
  · exact isCommonFlagSet_noFlags
  · exact h

section Primitives
variable (cfg : Config) (fmt : Fmt) (a b c : Pattern fmt) (dir : Directive)

@[simp] theorem nanResult_raised_common (invalid : Bool) : IsCommonFlagSet (nanResult fmt invalid).raised :=
  isCommonFlagSet_flagIf isCommonFlagSet_flagNV invalid

@[simp] theorem exactResult_raised_common : IsCommonFlagSet (exactResult a).raised := isCommonFlagSet_noFlags

@[simp] theorem roundedResult_raised_common (s : Bool) (m : Magnitude) : IsCommonFlagSet (roundedResult cfg fmt s m dir).raised := by
  simp only [roundedResult, round]
  split
  · exact isCommonFlagSet_overflow
  · exact isCommonFlagSet_underflow _ _

theorem fma_raised_common : IsCommonFlagSet (fma cfg fmt a b c dir).raised := by
  rw [fma]
  split_ifs <;> simp

theorem add_raised_common : IsCommonFlagSet (add cfg fmt a b dir).raised := by
  rw [add]
  split_ifs <;> simp

theorem mul_raised_common : IsCommonFlagSet (mul cfg fmt a b dir).raised := by
  rw [mul]
  split_ifs <;> simp

theorem sqrt_raised_common : IsCommonFlagSet (sqrt cfg fmt a dir).raised := by
  rw [sqrt]
  split_ifs <;> simp

theorem div_raised_common_or_flagDZ : IsCommonFlagSet (div cfg fmt a b dir).raised ∨ (div cfg fmt a b dir).raised = flagDZ := by
  rw [div]
  split_ifs <;> simp

theorem i2f_raised_common (t : IntType) (i : XWord) : IsCommonFlagSet (i2f cfg fmt t i dir).raised := by
  rw [i2f]
  split_ifs <;> simp

theorem f2i_raised_common (t : IntType) : IsCommonFlagSet (f2i cfg fmt t a dir).raised := by
  simp only [f2i, floatToInt]
  split_ifs <;> simp

theorem narrow_raised_common (a : Pattern .D) : IsCommonFlagSet (narrow cfg a dir).raised := by
  rw [narrow]
  split_ifs <;> simp

theorem widen_raised_common (a : Pattern .S) : IsCommonFlagSet (widen cfg a).raised := by
  rw [widen]
  split_ifs <;> simp

theorem minMax_raised_common (isMin : Bool) : IsCommonFlagSet (minMax cfg fmt isMin a b).raised :=
  isCommonFlagSet_flagIf isCommonFlagSet_flagNV _

theorem feq_raised_common : IsCommonFlagSet (feq cfg fmt a b).raised := by
  rw [feq]
  split_ifs <;> simp

theorem flt_raised_common : IsCommonFlagSet (flt fmt a b).raised := by
  rw [flt]
  split_ifs <;> simp

theorem fle_raised_common : IsCommonFlagSet (fle fmt a b).raised := by
  rw [fle]
  split_ifs <;> simp

end Primitives

/-! ## The flags of an operation -/

/-- The flags that `t` has beyond those of `s` are a set with `ok`. -/
def AddsFlags (ok : FlagSet → Prop) (s t : State) : Prop := ∃ fl, ok fl ∧ t.fflags = s.fflags ||| fl

/-- The operation adds only sets of flags with `ok`. -/
def RaisesOnly (ok : FlagSet → Prop) (op : State → StepResult) : Prop := ∀ s t, op s = .next t → AddsFlags ok s t

section Raises
variable {ok : FlagSet → Prop}

theorem AddsFlags.finishFp {fmt : Fmt} {p : Raised (FpResult fmt)} (h : ok p.raised) (rd : Reg) (s : State) :
    AddsFlags ok s (finishFp fmt rd p s) := ⟨p.raised, h, finishFp_fflags fmt rd p s⟩

theorem AddsFlags.finishInt {p : Raised XWord} (h : ok p.raised) (rd : Reg) (s : State) : AddsFlags ok s (finishInt rd p s) :=
  ⟨p.raised, h, by simp [finishInt_eq]⟩

theorem AddsFlags.of_fflags_eq (h0 : ok 0#5) {s t : State} (h : t.fflags = s.fflags) : AddsFlags ok s t := ⟨0#5, h0, by simp [h]⟩

theorem RaisesOnly.roundingOp (h0 : ok 0#5) {rm : RoundingCode} {body : Directive → State → State}
    (hbody : ∀ dir s, AddsFlags ok s (body dir s)) : RaisesOnly ok (roundingOp rm body) := by
  intro s t h
  obtain ⟨-, ht⟩ | ⟨-, -, ht⟩ | ⟨dir, -, -, ht⟩ := roundingOp_cases h <;> cases ht
  · exact .of_fflags_eq h0 rfl
  · exact .of_fflags_eq h0 rfl
  · exact hbody dir (setLibRm dir s)

theorem RaisesOnly.plainOp (h0 : ok 0#5) {isGated : Bool} {body : State → State} (hbody : ∀ s, AddsFlags ok s (body s)) :
    RaisesOnly ok (plainOp isGated body) := by
  intro s t h
  obtain ⟨-, ht⟩ | ⟨-, ht⟩ := plainOp_cases h <;> cases ht
  · exact .of_fflags_eq h0 rfl
  · exact hbody s

theorem RaisesOnly.onRv64 {op : State → StepResult} (h : RaisesOnly ok op) : RaisesOnly ok (onRv64 op) := by
  intro s t ht
  cases hx : s.build.xlen with
  | rv32 => cases (onRv64_rv32 hx op).symm.trans ht
  | rv64 => exact h s t ((onRv64_rv64 hx op).symm.trans ht)

end Raises

/-- The sets of flags of R196 for the instruction: divide-by-zero comes from FDIV only. -/
def MayRaise (i : Instr) (fl : FlagSet) : Prop :=
  IsCommonFlagSet fl ∨ fl = flagDZ ∧ ∃ fmt rd rs1 rs2 rm, i = Reference.divInstr fmt rd rs1 rs2 rm

theorem mayRaise_nothing {i : Instr} : MayRaise i 0#5 := .inl isCommonFlagSet_noFlags

theorem raisesOnly_divInstr (fmt : Fmt) (rd rs1 rs2 : Reg) (rm : RoundingCode) :
    RaisesOnly (MayRaise (Reference.divInstr fmt rd rs1 rs2 rm)) (exec (Reference.divInstr fmt rd rs1 rs2 rm)) := by
  rw [funext (exec_divInstr fmt rd rs1 rs2 rm)]
  refine .roundingOp mayRaise_nothing fun dir s => ?_
  exact .finishFp ((div_raised_common_or_flagDZ ..).imp_right fun h => ⟨h, fmt, rd, rs1, rs2, rm, rfl⟩) rd s

theorem raisesOnly_classInstr (fmt : Fmt) (rd rs1 : Reg) :
    RaisesOnly (MayRaise (Reference.classInstr fmt rd rs1)) (exec (Reference.classInstr fmt rd rs1)) := by
  intro s t h
  obtain ⟨hfl, -⟩ := exec_classInstr_flags h
  exact .of_fflags_eq mayRaise_nothing hfl

theorem exec_raisesOnly (i : Instr) : RaisesOnly (MayRaise i) (exec i) := by
  cases i with
  | fmaddS | fmsubS | fnmsubS | fnmaddS | fmaddD | fmsubD | fnmsubD | fnmaddD =>
    refine RaisesOnly.roundingOp mayRaise_nothing fun _ s => ?_
    exact .finishFp (.inl (fma_raised_common ..)) _ s
  | faddS | fsubS | faddD | fsubD =>
    refine RaisesOnly.roundingOp mayRaise_nothing fun _ s => ?_
    exact .finishFp (.inl (add_raised_common ..)) _ s
  | fmulS | fmulD =>
    refine RaisesOnly.roundingOp mayRaise_nothing fun _ s => ?_
    exact .finishFp (.inl (mul_raised_common ..)) _ s
  | fdivS => exact raisesOnly_divInstr .S _ _ _ _
  | fdivD => exact raisesOnly_divInstr .D _ _ _ _
  | fsqrtS | fsqrtD =>
    refine RaisesOnly.roundingOp mayRaise_nothing fun _ s => ?_
    exact .finishFp (.inl (sqrt_raised_common ..)) _ s
  | fcvtWS | fcvtWuS | fcvtWD | fcvtWuD =>
    refine RaisesOnly.roundingOp mayRaise_nothing fun _ s => ?_
    exact .finishInt (.inl (f2i_raised_common ..)) _ s
  | fcvtLS | fcvtLuS | fcvtLD | fcvtLuD =>
    refine .onRv64 (RaisesOnly.roundingOp mayRaise_nothing fun _ s => ?_)
    exact .finishInt (.inl (f2i_raised_common ..)) _ s
  | fcvtSW | fcvtSWu | fcvtDW | fcvtDWu =>
    refine RaisesOnly.roundingOp mayRaise_nothing fun _ s => ?_
    exact .finishFp (.inl (i2f_raised_common ..)) _ s
  | fcvtSL | fcvtSLu | fcvtDL | fcvtDLu =>
    refine .onRv64 (RaisesOnly.roundingOp mayRaise_nothing fun _ s => ?_)
    exact .finishFp (.inl (i2f_raised_common ..)) _ s
  | fcvtSD =>
    rw [exec_fcvtSD]
    refine .roundingOp mayRaise_nothing fun _ s => ?_
    exact .finishFp (.inl (narrow_raised_common ..)) _ s
  | fcvtDS =>
    rw [exec_fcvtDS]
    refine .roundingOp mayRaise_nothing fun _ s => ?_
    exact .finishFp (.inl (widen_raised_common ..)) _ s
  | fminS | fmaxS | fminD | fmaxD =>
    refine RaisesOnly.plainOp mayRaise_nothing fun s => ?_
    exact .finishFp (.inl (minMax_raised_common ..)) _ s
  | feqS | feqD =>
    refine RaisesOnly.plainOp mayRaise_nothing fun s => ?_
    exact .finishInt (.inl (feq_raised_common ..)) _ s
  | fltS | fltD =>
    refine RaisesOnly.plainOp mayRaise_nothing fun s => ?_
    exact .finishInt (.inl (flt_raised_common ..)) _ s
  | fleS | fleD =>
    refine RaisesOnly.plainOp mayRaise_nothing fun s => ?_
    exact .finishInt (.inl (fle_raised_common ..)) _ s
  | fclassS => exact raisesOnly_classInstr .S _ _
  | fclassD => exact raisesOnly_classInstr .D _ _

/-- Settles O26: what an operation adds does not depend on fflags, and from fflags = 0 it is the flags of its primitive. -/
theorem operationsRaiseOnlyTheListedFlagSets : Obligations.OperationsRaiseOnlyTheListedFlagSets := by
  intro i s t h
  obtain ⟨c, hc⟩ := flagContributionIsIndependentOfFlags i s t h
  obtain ⟨fl, hfl, hadds⟩ := exec_raisesOnly i _ _ (hc 0#5)
  obtain rfl : c = fl := by simpa using hadds
  obtain hcommon | ⟨rfl, hdiv⟩ := hfl
  · refine ⟨c, ?_, hc, ?_⟩
    · exact List.mem_append_left [0b01000#5] hcommon
    · rintro rfl
      simp [IsCommonFlagSet] at hcommon
  · exact ⟨flagDZ, by decide, hc, fun _ => hdiv⟩

/-! ## The outcome as a function of the request (60_exceptions.md R209) -/

/-- The registers, the flags and the control fields after a floating-point result is handed back. -/
theorem finishFp_frame (fmt : Fmt) (rd : Reg) (p : Raised (FpResult fmt)) (s : State) :
    (finishFp fmt rd p s).f = s.f.set rd.toNat (toFpWord s.build.f32Box fmt (handedBack fmt p.result s)) rd.isLt
      ∧ (finishFp fmt rd p s).x = s.x ∧ (finishFp fmt rd p s).fflags = s.fflags ||| p.raised
      ∧ (finishFp fmt rd p s).frm = s.frm ∧ (finishFp fmt rd p s).fpEnabled = s.fpEnabled := by
  rw [finishFp_eq]
  split <;> simp

/-- The two states hold the same for a request: the build, the registers, frm, fflags, fp_enabled, and the next draw where one is made. -/
structure SameRequest (s s' : State) : Prop where
  build : s'.build = s.build
  frm : s'.frm = s.frm
  fflags : s'.fflags = s.fflags
  fpEnabled : s'.fpEnabled = s.fpEnabled
  f : s'.f = s.f
  x : s'.x = s.x
  draws : s.build.nanMode = .propagate → s'.draws = s.draws

/-- From `s` and `s'` the same outcome was handed back, and the registers, the flags and the control fields are the same after it. -/
def SameAnswer (s t s' t' : State) : Prop :=
  ∃ o, t.outcomes = o :: s.outcomes ∧ t'.outcomes = o :: s'.outcomes
    ∧ t'.f = t.f ∧ t'.x = t.x ∧ t'.fflags = t.fflags ∧ t'.frm = t.frm ∧ t'.fpEnabled = t.fpEnabled

/-- Where `op` answers a next state from `s`, it answers the same from `s'`. -/
def AnswersAlike (op : State → StepResult) (s s' : State) : Prop :=
  ∀ t, op s = .next t → ∃ t', op s' = .next t' ∧ SameAnswer s t s' t'

namespace SameRequest

variable {s s' : State}

theorem gateFails_eq (h : SameRequest s s') (isGated : Bool) : gateFails isGated s' = gateFails isGated s := by
  rw [gateFails, gateFails, h.build, h.fpEnabled]

theorem resolve_eq (h : SameRequest s s') (rm : RoundingCode) : resolve s' rm = resolve s rm := by
  rw [resolve, resolve, h.frm]

theorem setLibRm (h : SameRequest s s') (dir : Directive) : SameRequest (setLibRm dir s) (setLibRm dir s') :=
  ⟨h.build, h.frm, h.fflags, h.fpEnabled, h.f, h.x, h.draws⟩

theorem accumulate (h : SameRequest s s') (raised : FlagSet) : SameRequest (accumulate raised s) (accumulate raised s') :=
  ⟨h.build, h.frm, by simp [h.fflags], h.fpEnabled, h.f, h.x, h.draws⟩

theorem nanPattern_eq (h : SameRequest s s') (fmt : Fmt) : nanPattern fmt s' = nanPattern fmt s := by
  cases hn : s.build.nanMode with
  | canonical => simp only [nanPattern, h.build, hn]
  | propagate => simp only [nanPattern, h.build, h.draws hn]

theorem handedBack_eq (h : SameRequest s s') (fmt : Fmt) (r : FpResult fmt) : handedBack fmt r s' = handedBack fmt r s := by
  cases r with
  | number v => rfl
  | nan => exact h.nanPattern_eq fmt

theorem takeTrap (h : SameRequest s s') : SameAnswer s (takeTrap s) s' (takeTrap s') :=
  ⟨.trap .illegalInstruction, rfl, rfl, h.f, h.x, h.fflags, h.frm, h.fpEnabled⟩

theorem finishFp (h : SameRequest s s') (fmt : Fmt) (rd : Reg) (p : Raised (FpResult fmt)) :
    SameAnswer s (finishFp fmt rd p s) s' (finishFp fmt rd p s') := by
  have hv : handedBack fmt p.result s' = handedBack fmt p.result s := h.handedBack_eq fmt p.result
  obtain ⟨hf, hx, hfl, hfrm, hen⟩ := finishFp_frame fmt rd p s
  obtain ⟨hf', hx', hfl', hfrm', hen'⟩ := finishFp_frame fmt rd p s'
  refine ⟨_, finishFp_outcomes fmt rd p s, hv ▸ finishFp_outcomes fmt rd p s', ?_, ?_, ?_, ?_, ?_⟩
  · rw [hf, hf', hv, h.build, h.f]
  · rw [hx, hx', h.x]
  · rw [hfl, hfl', h.fflags]
  · rw [hfrm, hfrm', h.frm]
  · rw [hen, hen', h.fpEnabled]

theorem completeInt (h : SameRequest s s') (rd : Reg) (v : XWord) : SameAnswer s (completeInt rd v s) s' (completeInt rd v s') := by
  have hx : (writeX rd v s').x = (writeX rd v s).x := by simp only [writeX, h.build, h.x]; split <;> simp [h.x]
  refine ⟨.int v, completeInt_outcomes rd v s, completeInt_outcomes rd v s', ?_⟩
  simp [hx, h.f, h.fflags, h.frm, h.fpEnabled]

theorem finishInt (h : SameRequest s s') (rd : Reg) (p : Raised XWord) : SameAnswer s (finishInt rd p s) s' (finishInt rd p s') :=
  (h.accumulate p.raised).completeInt rd p.result

theorem plainOp (h : SameRequest s s') (isGated : Bool) {body : State → State} (hbody : SameAnswer s (body s) s' (body s')) :
    AnswersAlike (plainOp isGated body) s s' := by
  intro t ht
  obtain ⟨hg, ht⟩ | ⟨hg, ht⟩ := plainOp_cases ht <;> cases ht
  · exact ⟨_, plainOp_gate ((h.gateFails_eq isGated).trans hg) body, h.takeTrap⟩
  · exact ⟨_, plainOp_runs ((h.gateFails_eq isGated).trans hg) body, hbody⟩

theorem roundingOp (h : SameRequest s s') (rm : RoundingCode) {body : Directive → State → State}
    (hbody : ∀ dir, SameAnswer s (body dir (Machine.setLibRm dir s)) s' (body dir (Machine.setLibRm dir s'))) :
    AnswersAlike (roundingOp rm body) s s' := by
  intro t ht
  obtain ⟨hg, ht⟩ | ⟨-, hr, ht⟩ | ⟨dir, hg, hr, ht⟩ := roundingOp_cases ht <;> cases ht
  · exact ⟨_, roundingOp_gate ((h.gateFails_eq true).trans hg) rm body, h.takeTrap⟩
  · exact ⟨_, roundingOp_unresolved ((h.resolve_eq rm).trans hr) body, h.takeTrap⟩
  · exact ⟨_, roundingOp_runs ((h.gateFails_eq true).trans hg) ((h.resolve_eq rm).trans hr) body, hbody dir⟩

theorem behindXlen (h : SameRequest s s') (i : Instr) {op : State → StepResult} (hop : AnswersAlike op s s') :
    AnswersAlike (behindXlen i op) s s' := by
  intro t ht
  cases hw : i.wf s.build.xlen with
  | false => cases (behindXlen_of_not_wf hw op).symm.trans ht
  | true =>
    rw [behindXlen_of_wf hw] at ht
    rw [behindXlen_of_wf (h.build ▸ hw)]
    exact hop t ht

/-- A primitive sees the build and the register files only, which hold the same in both states. -/
theorem exec (h : SameRequest s s') (i : Instr) : AnswersAlike (exec i) s s' := by
  obtain ⟨rm, fmt, rd, p, -, -, he⟩ | ⟨rm, rd, p, -, -, he⟩ | ⟨fmt, rd, p, -, -, -, he⟩ | ⟨rd, p, -, -, -, he⟩ | ⟨rd, p, -, -, -, he⟩ :=
    exec_shape i
  · rw [he]
    refine h.behindXlen i (h.roundingOp rm fun dir => ?_)
    have hs := h.setLibRm dir
    rw [hs.build, hs.f, hs.x]
    exact hs.finishFp fmt rd _
  · rw [he]
    refine h.behindXlen i (h.roundingOp rm fun dir => ?_)
    have hs := h.setLibRm dir
    rw [hs.build, hs.f]
    exact hs.finishInt rd _
  · rw [he]
    refine h.plainOp true ?_
    rw [h.build, h.f]
    exact h.finishFp fmt rd _
  · rw [he]
    refine h.plainOp true ?_
    rw [h.build, h.f]
    exact h.finishInt rd _
  · intro t ht
    rw [he] at ht
    rw [he, h.build]
    refine h.plainOp _ ?_ t ht
    rw [h.build, h.f]
    exact h.completeInt rd _

end SameRequest

/-- Settles O28: the shapes of an operation answer alike, down to the hand-back of the result. -/
theorem outcomeIsAFunctionOfTheRequest : Obligations.OutcomeIsAFunctionOfTheRequest := by
  intro i s s' t ht hbuild hfrm hflags hen hf hx hdraws
  obtain ⟨t', hexec, o, hanswer⟩ := SameRequest.exec ⟨hbuild, hfrm, hflags, hen, hf, hx, hdraws⟩ i t ht
  exact ⟨t', o, hexec, hanswer⟩

end Sys2Proof.Machine

/-! # The reset and host family: the loading convention, the host's moves, and the state straight after reset

A step on a move of the host is `hostWrite` past the queue, so each move's effect is that of the write it makes: of the block's fields, of
f[r] (`writeF`) or of x[r] (`writeX`). The reset state is one in which the gate fails for what is gated and for nothing else. -/

namespace Sys2Proof.Machine

/-! ## The loading convention (70_reset_and_hazards.md R223; log entry 5) -/

theorem wordOfBits_of_lt {nbits w : Nat} (h : w < 2 ^ nbits) : wordOfBits nbits w = BitVec.ofNat 32 w := by
  rw [wordOfBits, Nat.mod_eq_of_lt h]

/-- Settles O9: the word stands at the head of the queue, and its step takes it off again. -/
theorem fetchedWordIsPresentedNext : Obligations.FetchedWordIsPresentedNext := by
  intro s w hw
  have hin : (s.withFetchWord 32 w).inputs = .present (BitVec.ofNat 32 w) :: s.inputs := by
    rw [State.withFetchWord, wordOfBits_of_lt hw]
  exact step_present hin

/-! ## The host's moves (70_reset_and_hazards.md R223) -/

/-- All that a write of an integer register does (10_state.md R32). -/
theorem writeX_spec (r : Reg) (v : XWord) (s : State) :
    { writeX r v s with x := s.x } = s
      ∧ (∀ q, q ≠ r → readX q (writeX r v s) = readX q s)
      ∧ (r = 0#5 → writeX r v s = s)
      ∧ (r ≠ 0#5 → readX r (writeX r v s) = truncXlen s.build.xlen v) := by
  refine ⟨?_, fun q hq => readX_writeX_of_ne hq v s, fun hr => hr ▸ writeX_x_zero v s, fun hr => readX_writeX_same hr v s⟩
  unfold writeX
  split <;> rfl

theorem truncXlen_toNat (xlen : Xlen) (v : XWord) :
    (truncXlen xlen v).toNat = match xlen with | .rv32 => v.toNat % 2 ^ 32 | .rv64 => v.toNat := by
  cases xlen with
  | rv32 => exact truncXlen_rv32_toNat v
  | rv64 => rfl

theorem truncXlen_zeroExtend_word (xlen : Xlen) (v : BitVec 32) : truncXlen xlen (v.zeroExtend 64) = v.zeroExtend 64 := by
  cases xlen with
  | rv32 => exact truncXlen_rv32_zeroExtend v
  | rv64 => rfl

/-- The views of 10_state.md R28 as numbers. -/
theorem csrValue_toNat (csr : Csr) (s : State) :
    (csrValue csr s).toNat =
      match csr with
      | .fflags => s.fflags.toNat
      | .frm => s.frm.toNat
      | .fcsr => s.frm.toNat * 2 ^ 5 + s.fflags.toNat := by
  cases csr with
  | fflags => exact BitVec.toNat_setWidth_of_le (by decide)
  | frm => exact BitVec.toNat_setWidth_of_le (by decide)
  | fcsr =>
    have hhigh : (0#24 ++ s.frm).toNat = s.frm.toNat := by simp [toNat_append_eq 0#24 s.frm]
    rw [← hhigh]
    exact toNat_append_eq (0#24 ++ s.frm) s.fflags

theorem extractLsb'_eq_ofNat {w : Nat} (start len : Nat) (v : BitVec w) :
    v.extractLsb' start len = BitVec.ofNat len (v.toNat / 2 ^ start) := by
  rw [BitVec.extractLsb', Nat.shiftRight_eq_div_pow]

/-- mstatus.FS stands in bits 14:13 (10_state.md R27). -/
theorem fpEnabledOfMstatus_eq (v : BitVec 64) : fpEnabledOfMstatus v = decide (v.toNat / 2 ^ 13 % 4 ≠ 0) := by
  have hfs : v.extractLsb' 13 2 = 0#2 ↔ v.toNat / 2 ^ 13 % 4 = 0 := by
    rw [extractLsb'_eq_ofNat, ← BitVec.toNat_inj, BitVec.toNat_ofNat]
    rfl
  rw [fpEnabledOfMstatus, decide_eq_decide, ne_eq, hfs]

/-- Settles O10: a move is a write of the block's fields, of f[r], or of x[r] to the width of the build. -/
theorem hostInteractionsChangeWhatTheySay : Obligations.HostInteractionsChangeWhatTheySay := by
  intro s rest
  refine ⟨fun v => rfl, fun v => rfl, fun v => ?writeFcsr, fun on => rfl, fun v => ?writeMstatus, fun csr rd => ?readCsr,
    fun r v => ⟨_, rfl, rfl, ?loadF⟩, fun r v => ?loadX⟩
  case writeFcsr =>
    have hflags : v.extractLsb' 0 5 = BitVec.ofNat 5 v.toNat := by rw [extractLsb'_eq_ofNat, pow_zero, Nat.div_one]
    rw [← hflags, ← extractLsb'_eq_ofNat]
    rfl
  case writeMstatus =>
    rw [← fpEnabledOfMstatus_eq]
    rfl
  case readCsr =>
    obtain ⟨hframe, hother, hzero, hsame⟩ := writeX_spec rd ((csrValue csr s).zeroExtend 64) { s with inputs := rest }
    refine ⟨_, rfl, hframe, hother, hzero, fun hrd => ?_⟩
    calc
      _ = ((csrValue csr s).zeroExtend 64).toNat := congrArg BitVec.toNat ((hsame hrd).trans (truncXlen_zeroExtend_word _ _))
      _ = (csrValue csr s).toNat := BitVec.toNat_setWidth_of_le (by decide)
      _ = _ := csrValue_toNat csr s
  case loadF => exact ⟨readF_writeF_same r v _, fun q hq => readF_writeF_of_ne hq v _⟩
  case loadX =>
    obtain ⟨hframe, hother, hzero, hsame⟩ := writeX_spec r v { s with inputs := rest }
    exact ⟨_, rfl, hframe, hother, hzero, fun hr => (congrArg BitVec.toNat (hsame hr)).trans (truncXlen_toNat _ v)⟩

/-! ## Straight after reset (70_reset_and_hazards.md R211) -/

/-- Settles O15: XLEN = 64, so every operation exists; the gate is present, fp_enabled is 0, and FCLASS is not gated. -/
theorem afterResetOnlyClassifyRuns : Obligations.AfterResetOnlyClassifyRuns := by
  have hwf (i : Instr) : i.wf State.reset.build.xlen = true := Instr.wf_iff.mpr fun _ => rfl
  obtain ⟨hgate, -⟩ := gateTrapsWhenFpIsDisabled
  exact ⟨fun i hi => hgate i State.reset (hwf i) rfl hi rfl, completed_classInstr rfl, rfl, rfl⟩

end Sys2Proof.Machine
